-- ==== Sys2Proof/Word.lean ====
section
/-! DEFINITION. The data types of the VI2C block: bits and line levels, bytes, window offsets, 7-bit addresses (rule R8). -/

namespace Sys2Proof

/-- "Booleans and line levels are the bits 0 and 1; for a line, 1 means high (released) and 0 means low (pulled)" (R8):
`true` is 1, `false` is 0. -/
abbrev Bit := Bool

/-- A register value, 8 bits (R7, R51). -/
abbrev Byte := BitVec 8

/-- A register offset in the host window, 3 bits (R40, R64). -/
abbrev Offset := BitVec 3

/-- A slave address, 7 bits (R7, R30). -/
abbrev Addr7 := BitVec 7

end Sys2Proof
end

