-- ==== Sys2Proof/Syntax.lean ====
section
/-! DEFINITION. The commands, the micro-ops, the host's steps and program notation, the turns of the three agents. -/

namespace Sys2Proof

/-- The commands of rule R60, one constructor per row of spec/opcode_table.json.
The row NACK (0x07) is `nackc`, the name rule R71 gives it beside the STATUS flag NACK.
A command has no operand field (R59): its operand comes from a register (R62). -/
inductive Instr where
  | start
  | stop
  | send
  | read
  | waitack
  | ack
  | nackc
  | probe
  deriving DecidableEq, Repr

/-- The micro-ops of rule R65. `finish` is the micro-op END. -/
inductive MicroOp where
  | sda (v : Bit)        -- SDA v
  | sdab (i : Fin 8)     -- SDAB i
  | scl0                 -- SCL0
  | scl1                 -- SCL1
  | wscl                 -- WSCL
  | dly                  -- DLY
  | rxs                  -- RXS
  | aks                  -- AKS
  | finish               -- END
  deriving DecidableEq, Repr

/-- The two speed classes of CTRL.SPEED (R20): 0 = STANDARD, 1 = FAST. -/
inductive Speed where
  | standard
  | fast
  deriving DecidableEq, Repr

/-- The six named registers of the window (R41). -/
inductive Reg where
  | ctrl
  | cmd
  | status
  | txdata
  | rxdata
  | addr
  deriving DecidableEq, Repr

/-- The direction bit of a slave address byte: WRITE = 0, READ = 1 (R7, R13). -/
inductive Direction where
  | write
  | read
  deriving DecidableEq, Repr

/-- The block's events (R93). The bus stall hang records nothing and is no event of its own. -/
inductive BlockEvent where
  | noAcknowledge
  | reservedCommand
  | busyOverrun
  | stretchTimeout
  deriving DecidableEq, Repr

/-- One step of the Host agent (R6, R64, R69, R111).
`read` and `write` are R(off) and W(off, v).
`busRead` and `busWrite` are the same accesses by host address, of any width in bytes (R9, R50, R52).
`wait` is the loop of R69, one STATUS read a step.
`reset` asserts the reset input (R111), in its place in the host program (DESIGN CHOICE, log 21). -/
inductive HostOp where
  | read (off : Offset)
  | write (off : Offset) (v : Byte)
  | busRead (address : Nat) (bytes : Nat)
  | busWrite (address : Nat) (data : List Byte)
  | wait
  | reset
  deriving DecidableEq, Repr

/-- The assembler statements of rule R69. -/
inductive Asm where
  | wr (r : Reg) (v : Byte)
  | wrCmd (i : Instr)      -- "A command mnemonic may stand for its opcode"
  | rd (r : Reg)
  | wait
  deriving DecidableEq, Repr

/-- The pseudo-instructions of rule R70. -/
inductive Pseudo where
  | start
  | stop
  | send (b : Byte)
  | read
  | waitack
  | ack
  | nack
  | probe (a : Byte)
  | speed (k : Speed)
  deriving DecidableEq, Repr

/-- Whose step is next (R6, R54); a Peer step carries the two levels it drives (R17). -/
inductive Turn where
  | host
  | controller
  | peer (scl sda : Bit)
  deriving DecidableEq, Repr, Inhabited

/-- Why a byte is not decoded: it is one of the 248 reserved values (R61). -/
inductive DecodeError where
  | reserved
  deriving DecidableEq, Repr

end Sys2Proof
end

