-- ==== Sys2Proof/Config.lean ====
section
/-! DEFINITION. What an implementation fixes (rule R7), and the one free value, each a constant without a body: no proof can see its value. -/

namespace Sys2Proof

/-- BASE_ADDR / 8. OPEN in R7 (D2). -/
opaque Config.baseWindow : Nat

/-- BASE_ADDR, the host address of offset 0: any multiple of 8 (R7, R52). -/
def Config.baseAddr : Nat := 8 * Config.baseWindow

/-- STRETCH_LIMIT with its N lowered by one, so that every N of `Config.stretchLimit` is at least 1. OPEN in R7 (D15). -/
opaque Config.stretchLimitPred : Option Nat

/-- STRETCH_LIMIT: how many consecutive low polls of SCL abort a command; `none` = never.
"some N needs N ≥ 1" (R7). -/
def Config.stretchLimit : Option Nat := Config.stretchLimitPred.map (· + 1)

/-- T_DELAY(speed) - 1. OPEN in R7 (D16). -/
opaque Config.tDelayPred : Speed → Nat

/-- T_DELAY: controller clocks of one DLY per speed class, each at least 1 (R7). No step rule reads it (R77). -/
def Config.tDelay (k : Speed) : Nat := Config.tDelayPred k + 1

/-- FREE VALUE: the turn that comes next when State.schedule fixes none. "Any enabled agent may take the next step" (R6);
"a Peer step sets each to any value (0 or 1), at any time" (R17). Applied to the counter State.draws. -/
opaque Config.freeTurn : Nat → Turn

end Sys2Proof
end

