-- ==== Sys2Proof/WellFormed.lean ====
section
/-! DEFINITION. Which commands, micro-programs and host accesses are well formed: the checks the spec's rules give. -/

namespace Sys2Proof

/-- A command has no operand field (R59), so each of the eight is well formed. -/
def Instr.wellFormed : Instr → Bool
  | .start | .stop | .send | .read | .waitack | .ack | .nackc | .probe => true

/-- "In every micro-program SCL1 is immediately followed by WSCL" (R75). -/
def raisesPolled : List MicroOp → Bool
  | [] => true
  | .scl1 :: rest => (rest.head? == some .wscl) && raisesPolled rest
  | _ :: rest => raisesPolled rest

/-- END is "the last micro-op of every program" (R82) and stands nowhere else (R32). -/
def endsOnce : List MicroOp → Bool
  | [] => false
  | [op] => op == .finish
  | op :: rest => (op != .finish) && endsOnce rest

/-- The form every micro-program has (R75, R82). -/
def MicroOp.programWellFormed (p : List MicroOp) : Bool := raisesPolled p && endsOnce p

/-- The host steps the model admits: an access is one byte wide (R50) and inside the window (R52). -/
def HostOp.wellFormed (base : Nat) : HostOp → Bool
  | .busRead address bytes => decide (base ≤ address) && decide (address < base + 8) && bytes == 1
  | .busWrite address data => decide (base ≤ address) && decide (address < base + 8) && data.length == 1
  | .read _ | .write _ _ | .wait | .reset => true

end Sys2Proof
end

