-- ==== Sys2Proof/Decode.lean ====
section
/-! DEFINITION. Decoding: the byte written to CMD (R60, R61, R68) and the window offset (R41); after each, its encoder. -/

namespace Sys2Proof

/-- `decode` of rule R60, total on the 256 byte values (R68): the whole byte is compared (R59), and
0x00 and 0x09–0xFF are reserved (R61). -/
def decode (v : Byte) : Except DecodeError Instr :=
  match v.toNat with
  | 0x01 => .ok .start
  | 0x02 => .ok .stop
  | 0x03 => .ok .send
  | 0x04 => .ok .read
  | 0x05 => .ok .waitack
  | 0x06 => .ok .ack
  | 0x07 => .ok .nackc
  | 0x08 => .ok .probe
  | _ => .error .reserved

/-- The opcode of a command (R60). -/
def encode : Instr → Byte
  | .start => 0x01#8
  | .stop => 0x02#8
  | .send => 0x03#8
  | .read => 0x04#8
  | .waitack => 0x05#8
  | .ack => 0x06#8
  | .nackc => 0x07#8
  | .probe => 0x08#8

/-- Which register stands at an offset; 0x6 and 0x7 are reserved (R41, R31). -/
def decodeOffset (off : Offset) : Option Reg :=
  match off.toNat with
  | 0x0 => some .ctrl
  | 0x1 => some .cmd
  | 0x2 => some .status
  | 0x3 => some .txdata
  | 0x4 => some .rxdata
  | 0x5 => some .addr
  | _ => none

/-- off(REG), the offset of a register (R41). -/
def Reg.offset : Reg → Offset
  | .ctrl => 0x0#3
  | .cmd => 0x1#3
  | .status => 0x2#3
  | .txdata => 0x3#3
  | .rxdata => 0x4#3
  | .addr => 0x5#3

/-- The byte a table word of `nbits` bits stands for: its lowest eight bits, bits above `nbits` being 0 (R59: every command is
exactly one byte long; log 19). -/
def tableByte (nbits w : Nat) : Byte := BitVec.ofNat 8 (w % 2 ^ nbits)

/-- The command the decoder reads from an opcode-table word. -/
def decodeTableWord (nbits w : Nat) : Option Instr :=
  match decode (tableByte nbits w) with
  | .ok i => some i
  | .error _ => none

end Sys2Proof
end

