-- ==== Sys2Proof/Machine/State.lean ====
section
/-! DEFINITION. The state of the block (R14), the stops of the model, and the state after reset (R38). -/

namespace Sys2Proof.Machine

/-- The complete state. The first nineteen fields are the elements of rule R14; the last four are the model's own and carry the
moves of the other agents and what reads return (log 1, 2, 3). -/
structure State where
  /-- the controller's clock output, 1 = released (R16) -/
  sclO : Bit
  /-- the controller's data output, 1 = released (R16) -/
  sdaO : Bit
  /-- the Peer's combined clock output (R17) -/
  pScl : Bit
  /-- the Peer's combined data output (R17) -/
  pSda : Bit
  /-- CTRL.SPEED (R20) -/
  ctrlSpeed : Speed
  /-- STATUS.BUSY (R23) -/
  busy : Bit
  /-- STATUS.NACK (R24) -/
  nack : Bit
  /-- STATUS.PRESENT (R25) -/
  present : Bit
  /-- STATUS.ERR_CMD (R26) -/
  errCmd : Bit
  /-- STATUS.ERR_BUSY (R26) -/
  errBusy : Bit
  /-- STATUS.ERR_STALL (R26) -/
  errStall : Bit
  /-- TXDATA (R28) -/
  txdata : Byte
  /-- RXDATA (R29) -/
  rxdata : Byte
  /-- ADDR[6:0] (R30) -/
  addr : Addr7
  /-- the command now running, or none (R32) -/
  cmd : Option Instr
  /-- the micro-pc (R32) -/
  upc : Nat
  /-- the byte being serialized (R33) -/
  txl : Byte
  /-- the receive accumulator (R34) -/
  sh : Byte
  /-- consecutive low polls of one WSCL (R35) -/
  stallCnt : Nat
  /-- the Host's steps still to perform (model's own, log 2) -/
  hostProg : List HostOp
  /-- the turns already fixed, next first (model's own, log 1) -/
  schedule : List Turn
  /-- how many free turns have been drawn (model's own, log 1) -/
  draws : Nat
  /-- the bytes host reads have returned, newest first (model's own, log 3) -/
  returned : List Byte
  deriving DecidableEq, Repr

/-- Why the machine stops with a fault. -/
inductive Fault where
  /-- Raised by a Controller turn in a state that R14's own typing rules out: BUSY = 1 with no command, or `upc` not below the
  length of the command's micro-program. Safe: the model stops, and no run from a state of R14 reaches it (log 9). -/
  | microPcOutsideProgram
  deriving DecidableEq, Repr

/-- Why the model gives a step no meaning. -/
inductive Refusal where
  /-- An instruction without a meaning yet, by its mnemonic. Safe. -/
  | notModelled (mnemonic : String)
  /-- Raised by a host access by address that is not one byte wide: "refused: the model gives it no meaning" (R10, R50). Safe. -/
  | accessWidth
  /-- Raised by a host access by address outside the window (R10, R52). Safe. -/
  | outsideWindow
  deriving DecidableEq, Repr

/-- The state after reset: every element of R14 at its value of R38.
`pScl` and `pSda` are not reset by the block; released here by DESIGN CHOICE (log 4).
The model's own fields are empty, DESIGN CHOICE (log 17). -/
def State.reset : State where
  sclO := true
  sdaO := true
  pScl := true
  pSda := true
  ctrlSpeed := .standard
  busy := false
  nack := false
  present := false
  errCmd := false
  errBusy := false
  errStall := false
  txdata := 0x00#8
  rxdata := 0x00#8
  addr := 0x00#7
  cmd := none
  upc := 0
  txl := 0x00#8
  sh := 0x00#8
  stallCnt := 0
  hostProg := []
  schedule := []
  draws := 0
  returned := []

/-- The answer of a meaning or of one agent's step. -/
abbrev Answer := Host.Outcome State Fault Refusal

end Sys2Proof.Machine
end

