-- ==== Sys2Proof/Machine/Ops.lean ====
section
/-! DEFINITION. The shared operations on the block: the line levels, the line drivers, the micro-pc, raising an event and its
return, issuing a command, ending one, reset. -/

namespace Sys2Proof.Machine

/-- SCL = scl_o AND p_scl (R19). -/
def State.scl (s : State) : Bit := s.sclO && s.pScl

/-- SDA = sda_o AND p_sda (R19). -/
def State.sda (s : State) : Bit := s.sdaO && s.pSda

/-- scl_o <- v (R16, R75). -/
def State.driveScl (v : Bit) (s : State) : State := { s with sclO := v }

/-- sda_o <- v (R16, R74). -/
def State.driveSda (v : Bit) (s : State) : State := { s with sdaO := v }

/-- upc <- upc + 1 (R9, R80). -/
def State.advance (s : State) : State := { s with upc := s.upc + 1 }

/-- stall_cnt <- stall_cnt + 1: one more consecutive low poll of a WSCL (R35). -/
def State.countLowPoll (s : State) : State := { s with stallCnt := s.stallCnt + 1 }

/-- The command is over: cmd <- none, BUSY <- 0, upc <- 0 (R82, R97). -/
def State.goIdle (s : State) : State := { s with cmd := none, busy := false, upc := 0 }

/-- EVENT ENTRY, the block's counterpart of taking an exception: "an event saves no state, changes no mode, masks nothing and
transfers control nowhere"; its only effects are those of R94, R95, R97 and R98, in the step of its cause (R100). -/
def State.raiseEvent (e : BlockEvent) (s : State) : State :=
  match e with
  | .noAcknowledge => { s with nack := true }
  | .reservedCommand => { s with errCmd := true }
  | .busyOverrun => { s with errBusy := true }
  | .stretchTimeout => { s.goIdle with errStall := true, stallCnt := 0 }

/-- EVENT RETURN: "an error flag is cleared only by a host write of 1 to its STATUS bit (R45) or by reset" (R101).
`v` is the byte written to STATUS. -/
def State.clearErrors (v : Byte) (s : State) : State :=
  { s with
    errCmd := s.errCmd && !v.getLsbD 3
    errBusy := s.errBusy && !v.getLsbD 4
    errStall := s.errStall && !v.getLsbD 5 }

/-- A CMD write of an accepted opcode (R47, its first and last branch): dropped with ERR_BUSY while BUSY = 1 (R95); else the
command starts, and `operand`, where the command has one, is latched into `txl` in the same step (R33, R62). -/
def State.issue (c : Instr) (operand : Option Byte) (s : State) : State :=
  if s.busy then s.raiseEvent .busyOverrun
  else
    { s with
      cmd := some c
      busy := true
      upc := 0
      sh := 0x00#8
      stallCnt := 0
      txl := operand.getD s.txl }

/-- What a host read returned reaches the Host (R42); no state of the block changes (log 3). -/
def State.deliver (v : Byte) (s : State) : State := { s with returned := v :: s.returned }

/-- A Peer move: it sets both its outputs and nothing else (R17). -/
def State.movePeer (scl sda : Bit) (s : State) : State := { s with pScl := scl, pSda := sda }

/-- The reset input asserted: every element of the Controller and the Host at its value of R38, whatever was running (R111);
"Reset does not change the Peer's outputs" (R113). The model's own fields stay (log 15). -/
def State.resetBlock (s : State) : State :=
  { State.reset with
    pScl := s.pScl
    pSda := s.pSda
    hostProg := s.hostProg
    schedule := s.schedule
    draws := s.draws
    returned := s.returned }

end Sys2Proof.Machine
end

