-- ==== Sys2Proof/Machine/Operands.lean ====
section
/-! DEFINITION. Operand and register-field assembly: address bytes, the latched operands of SEND and PROBE, shifting a bit in,
CTRL and ADDR as bytes, the window address of a host access. -/

namespace Sys2Proof.Machine

/-- WRITE = 0, READ = 1 (R7). -/
def directionBit : Direction → Bit
  | .write => false
  | .read => true

/-- addrByte(a7, dir) = {a7[6:0], dir} (R13). -/
def addrByte (a : Addr7) (d : Direction) : Byte := a.concat (directionBit d)

/-- SEND's operand: TXDATA, unchanged (R62). -/
def State.sendOperand (s : State) : Byte := s.txdata

/-- PROBE's operand: {ADDR[6:0], 0}, the address byte with the WRITE direction bit (R62). -/
def State.probeOperand (s : State) : Byte := addrByte s.addr .write

/-- {b[6:0], x}: the receive accumulator after one sample (R78). -/
def shiftIn (b : Byte) (x : Bit) : Byte := (b.extractLsb' 0 7).concat x

/-- zext_8(CTRL.SPEED) (R42). -/
def speedByte : Speed → Byte
  | .standard => 0x00#8
  | .fast => 0x01#8

/-- CTRL.SPEED <- v[0]; v[7:1] ignored (R44). -/
def speedOfByte (v : Byte) : Speed := if v.getLsbD 0 then .fast else .standard

/-- zext_8(ADDR[6:0]) (R42). -/
def addrAsByte (a : Addr7) : Byte := a.setWidth 8

/-- v[6:0], what an ADDR write stores (R46). -/
def addrOfByte (v : Byte) : Addr7 := v.setWidth 7

/-- The window offset of a host address, `none` outside BASE_ADDR .. BASE_ADDR + 7 (R40, R52). -/
def windowOffset (base address : Nat) : Option Offset :=
  if base ≤ address ∧ address < base + 8 then some (BitVec.ofNat 3 (address - base)) else none

end Sys2Proof.Machine
end

