-- ==== Sys2Proof/Machine/Flags.lean ====
section
/-! DEFINITION. The STATUS byte and the flags the Controller computes: NACK and PRESENT. -/

namespace Sys2Proof.Machine

/-- A STATUS read: {SDA, SCL, ERR_STALL, ERR_BUSY, ERR_CMD, PRESENT, NACK, BUSY}, the lines live (R22, R27). -/
def State.statusByte (s : State) : Byte :=
  BitVec.ofBoolListBE [s.sda, s.scl, s.errStall, s.errBusy, s.errCmd, s.present, s.nack, s.busy]

/-- AKS: NACK <- SDA (R79). A high SDA is the no-acknowledge event (R98). -/
def State.sampleAck (s : State) : State :=
  if s.sda then s.raiseEvent .noAcknowledge else { s with nack := false }

/-- The result END commits: RXDATA <- sh for READ, PRESENT <- NOT NACK for PROBE, nothing for another command (R82). -/
def State.commit (s : State) : State :=
  match s.cmd with
  | some .read => { s with rxdata := s.sh }
  | some .probe => { s with present := !s.nack }
  | some .start | some .stop | some .send | some .waitack | some .ack | some .nackc | none => s

end Sys2Proof.Machine
end

