-- ==== Sys2Proof/Machine/MicroOps.lean ====
section
/-! DEFINITION. The micro-operations, one definition each (40_microops.md rules R74 to R82).
`limit` is STRETCH_LIMIT, an argument wherever a rule reads it (R7, R76). -/

namespace Sys2Proof.Machine

/-- SDA v: sda_o <- v ; upc <- upc + 1 (R74). -/
def microSda (v : Bit) (s : State) : State := (s.driveSda v).advance

/-- SDAB i: sda_o <- txl[i] ; upc <- upc + 1 (R74). -/
def microSdab (i : Fin 8) (s : State) : State := (s.driveSda (s.txl.getLsbD i)).advance

/-- SCL0: scl_o <- 0 ; upc <- upc + 1 (R75). -/
def microScl0 (s : State) : State := (s.driveScl false).advance

/-- SCL1: scl_o <- 1 ; upc <- upc + 1 (R75). -/
def microScl1 (s : State) : State := (s.driveScl true).advance

/-- WSCL, the clock-stretching detector (R76): advance on SCL = 1; else hold, without a bound when `limit` is none, and abort at
the N-th consecutive low poll when it is some N (R97). A hold counts the low poll whatever the limit (R35, R9; log 10). -/
def microWscl (limit : Option Nat) (s : State) : State :=
  if s.scl then { s.advance with stallCnt := 0 }
  else
    match limit with
    | none => s.countLowPoll
    | some n =>
      if s.stallCnt + 1 ≥ n then s.raiseEvent .stretchTimeout
      else s.countLowPoll

/-- DLY: upc <- upc + 1, one inter-bit delay (R77). The model has no time (log 7). -/
def microDly (s : State) : State := s.advance

/-- RXS: sh <- {sh[6:0], SDA} ; upc <- upc + 1 (R78). -/
def microRxs (s : State) : State := { s.advance with sh := shiftIn s.sh s.sda }

/-- AKS: NACK <- SDA ; upc <- upc + 1 (R79). -/
def microAks (s : State) : State := s.sampleAck.advance

/-- END: commit the result, then cmd <- none ; BUSY <- 0 ; upc <- 0; changes no line (R82). -/
def microEnd (s : State) : State := s.commit.goIdle

/-- The effect of one micro-op (R65). -/
def runMicroOp (limit : Option Nat) (op : MicroOp) (s : State) : State :=
  match op with
  | .sda v => microSda v s
  | .sdab i => microSdab i s
  | .scl0 => microScl0 s
  | .scl1 => microScl1 s
  | .wscl => microWscl limit s
  | .dly => microDly s
  | .rxs => microRxs s
  | .aks => microAks s
  | .finish => microEnd s

end Sys2Proof.Machine
end

