-- ==== Sys2Proof/Machine/Conditions.lean ====
section
/-! DEFINITION. START and STOP (41_conditions.md): what issuing each does, and its micro-program.
A meaning `exec…` is the Host step that issues the command, "the block's only instruction issue" (R48); the Controller then runs
the micro-program one micro-op per step (R73; log 11). -/

namespace Sys2Proof.Machine

/-- START's micro-program without its END: "drives data high", "drives clock high", poll, delay, "drives data low while clock
remains high", delay, "drives clock low" (R85). -/
def startBody : List MicroOp := [.sda true, .scl1, .wscl, .dly, .sda false, .dly, .scl0]

/-- START's micro-program (R66, R85). -/
def startProgram : List MicroOp := startBody ++ [.finish]

/-- START: no operand (R85). -/
def execStart (s : State) : Answer := .next (s.issue .start none)

/-- STOP's micro-program without its END: "drives data low", "raises clock", poll, delay, "raises data while clock remains high";
no delay separates its first two micro-ops (R86). -/
def stopBody : List MicroOp := [.sda false, .scl1, .wscl, .dly, .sda true]

/-- STOP's micro-program (R66, R86). -/
def stopProgram : List MicroOp := stopBody ++ [.finish]

/-- STOP: no operand (R86). -/
def execStop (s : State) : Answer := .next (s.issue .stop none)

end Sys2Proof.Machine
end

