-- ==== Sys2Proof/Machine/ByteTransfer.lean ====
section
/-! DEFINITION. SEND and READ (42_byte_transfer.md): what issuing each does, and its micro-program. -/

namespace Sys2Proof.Machine

/-- BIT_TX(i) = [SDAB i, DLY, SCL1, WSCL, DLY, SCL0] (R66). -/
def bitTx (i : Fin 8) : List MicroOp := [.sdab i, .dly, .scl1, .wscl, .dly, .scl0]

/-- BIT_RX = [SCL1, WSCL, DLY, RXS, SCL0, DLY] (R66). -/
def bitRx : List MicroOp := [.scl1, .wscl, .dly, .rxs, .scl0, .dly]

/-- SEND's micro-program without its END: eight bits, bit 7 first (R83), then "release data high" (R87). -/
def sendBody : List MicroOp :=
  bitTx 7 ++ bitTx 6 ++ bitTx 5 ++ bitTx 4 ++ bitTx 3 ++ bitTx 2 ++ bitTx 1 ++ bitTx 0 ++ [.sda true]

/-- SEND's micro-program (R66, R87). -/
def sendProgram : List MicroOp := sendBody ++ [.finish]

/-- SEND: TXDATA is latched into txl (R62, R87). -/
def execSend (s : State) : Answer := .next (s.issue .send (some s.sendOperand))

/-- READ's micro-program: eight samples, the first into bit 7; it drives no data level (R66, R88). -/
def readProgram : List MicroOp :=
  bitRx ++ bitRx ++ bitRx ++ bitRx ++ bitRx ++ bitRx ++ bitRx ++ bitRx ++ [.finish]

/-- READ: no operand (R88). -/
def execRead (s : State) : Answer := .next (s.issue .read none)

end Sys2Proof.Machine
end

