-- ==== Sys2Proof/Machine/Acknowledge.lean ====
section
/-! DEFINITION. WAITACK, ACK and NACK (43_acknowledge.md): what issuing each does, and its micro-program. -/

namespace Sys2Proof.Machine

/-- WAITACK's micro-program without its END: release data, delay, raise clock, poll, delay, sample, lower clock, delay (R89). -/
def waitackBody : List MicroOp := [.sda true, .dly, .scl1, .wscl, .dly, .aks, .scl0, .dly]

/-- WAITACK's micro-program (R66, R89). -/
def waitackProgram : List MicroOp := waitackBody ++ [.finish]

/-- WAITACK: no operand (R89). -/
def execWaitack (s : State) : Answer := .next (s.issue .waitack none)

/-- One clock pulse of the ninth bit with SDA at `v`, delays bracketing each edge and the poll after the raise
(R90, R91; D12, D13, conflict C1). -/
def ackPulse (v : Bit) : List MicroOp := [.sda v, .dly, .scl1, .wscl, .dly, .scl0, .dly]

/-- ACK's micro-program: SDA low (R66, R90). -/
def ackProgram : List MicroOp := ackPulse false ++ [.finish]

/-- ACK: no operand (R90). -/
def execAck (s : State) : Answer := .next (s.issue .ack none)

/-- NACK's micro-program: SDA released (R66, R91). -/
def nackcProgram : List MicroOp := ackPulse true ++ [.finish]

/-- NACK (command NACKC): no operand; the STATUS flag NACK is not written (R91). -/
def execNackc (s : State) : Answer := .next (s.issue .nackc none)

end Sys2Proof.Machine
end

