-- ==== Sys2Proof/Machine/Probe.lean ====
section
/-! DEFINITION. PROBE (44_probe.md): what issuing it does, and its micro-program. -/

namespace Sys2Proof.Machine

/-- PROBE's micro-program: the bodies of START, SEND, WAITACK and STOP, then one END (R66, R92). -/
def probeProgram : List MicroOp := startBody ++ sendBody ++ waitackBody ++ stopBody ++ [.finish]

/-- PROBE: {ADDR[6:0], 0} is latched into txl (R62, R92). -/
def execProbe (s : State) : Answer := .next (s.issue .probe (some s.probeOperand))

end Sys2Proof.Machine
end

