-- ==== Sys2Proof/Machine/Dispatch.lean ====
section
/-! DEFINITION. One arm per command: issuing it (R47, R48). -/

namespace Sys2Proof.Machine

def exec (i : Instr) (s : State) : Host.Outcome State Fault Refusal :=
  match i with
  | .start => Sys2Proof.Machine.execStart s
  | .stop => Sys2Proof.Machine.execStop s
  | .send => Sys2Proof.Machine.execSend s
  | .read => Sys2Proof.Machine.execRead s
  | .waitack => Sys2Proof.Machine.execWaitack s
  | .ack => Sys2Proof.Machine.execAck s
  | .nackc => Sys2Proof.Machine.execNackc s
  | .probe => Sys2Proof.Machine.execProbe s

end Sys2Proof.Machine
end

