-- ==== Sys2Proof/Machine/HostPort.lean ====
section
/-! DEFINITION. The Host agent: register reads and writes, accesses by address, the wait loop, reset (20_memory.md). -/

namespace Sys2Proof.Machine

/-- The value RegRead(off, 1) returns (R42). -/
def State.regRead (off : Offset) (s : State) : Byte :=
  match decodeOffset off with
  | some .ctrl => speedByte s.ctrlSpeed
  | some .cmd => 0x00#8
  | some .status => s.statusByte
  | some .txdata => s.txdata
  | some .rxdata => s.rxdata
  | some .addr => addrAsByte s.addr
  | none => 0x00#8

/-- A CTRL write: dropped with ERR_BUSY while BUSY = 1, else CTRL.SPEED <- v[0] (R44). -/
def State.writeCtrl (v : Byte) (s : State) : State :=
  if s.busy then s.raiseEvent .busyOverrun else { s with ctrlSpeed := speedOfByte v }

/-- A CMD write of a reserved value: the BUSY check comes first (R96), so ERR_BUSY while BUSY = 1 (R95), else ERR_CMD (R94). -/
def State.reservedWrite (s : State) : State :=
  if s.busy then s.raiseEvent .busyOverrun else s.raiseEvent .reservedCommand

/-- A CMD write, the only way a command starts (R47): a legal opcode is issued, a reserved value raises its event. -/
def cmdWrite (v : Byte) (s : State) : Answer :=
  match decode v with
  | .ok i => exec i s
  | .error _ => .next s.reservedWrite

/-- RegWrite(off, 1, v) (R43 to R47). -/
def regWrite (off : Offset) (v : Byte) (s : State) : Answer :=
  match decodeOffset off with
  | some .ctrl => .next (s.writeCtrl v)
  | some .cmd => cmdWrite v s
  | some .status => .next (s.clearErrors v)
  | some .txdata => .next { s with txdata := v }
  | some .addr => .next { s with addr := addrOfByte v }
  | some .rxdata | none => .next s

/-- A read by host address: an access outside the window or of another width than one byte is refused (R10, R50, R52; log 12). -/
def busRead (base address bytes : Nat) (s : State) : Answer :=
  match windowOffset base address with
  | none => .refused .outsideWindow
  | some off => if bytes = 1 then .next (s.deliver (s.regRead off)) else .refused .accessWidth

/-- A write by host address, refused as `busRead` (R10, R50, R52; log 12). -/
def busWrite (base address : Nat) (data : List Byte) (s : State) : Answer :=
  match windowOffset base address with
  | none => .refused .outsideWindow
  | some off =>
    match data with
    | [v] => regWrite off v s
    | _ => .refused .accessWidth

/-- One poll of `wait`: a STATUS read; the loop is left when it returns BUSY = 0 (R69; log 18).
DESIGN CHOICE, unsafe: reset comes in program order, so one that stands after this wait is not reached while BUSY = 1 (log 21). -/
def waitPoll (s : State) : State :=
  let t := s.deliver s.statusByte
  if s.statusByte.getLsbD 0 then { t with hostProg := .wait :: t.hostProg } else t

/-- One host step, already taken from the host program. -/
def hostOp (op : HostOp) (s : State) : Answer :=
  match op with
  | .read off => .next (s.deliver (s.regRead off))
  | .write off v => regWrite off v s
  | .busRead address bytes => busRead Config.baseAddr address bytes s
  | .busWrite address data => busWrite Config.baseAddr address data s
  | .wait => .next (waitPoll s)
  | .reset => .next s.resetBlock

/-- One Host turn: the next step of the host program; a Host whose program is over has no step, and the turn changes nothing. -/
def hostStep (s : State) : Answer :=
  match s.hostProg with
  | [] => .next s
  | op :: rest => hostOp op { s with hostProg := rest }

end Sys2Proof.Machine
end

