-- ==== Sys2Proof/Machine/Assembler.lean ====
section
/-! DEFINITION. The host program notation of rules R69 and R70, down to host steps (R64). -/

namespace Sys2Proof.Machine

/-- "wr REG, v is W(off, v); rd REG is R(off); wait is a loop of R(0x2)" (R69). -/
def assemble : Asm → HostOp
  | .wr r v => .write r.offset v
  | .wrCmd i => .write Reg.cmd.offset (encode i)
  | .rd r => .read r.offset
  | .wait => .wait

/-- The expansion of a pseudo-instruction (R70). -/
def expand : Pseudo → List Asm
  | .start => [.wr .cmd 0x01#8, .wait]
  | .stop => [.wr .cmd 0x02#8, .wait]
  | .send b => [.wr .txdata b, .wr .cmd 0x03#8, .wait]
  | .read => [.wr .cmd 0x04#8, .wait, .rd .rxdata]
  | .waitack => [.wr .cmd 0x05#8, .wait, .rd .status]
  | .ack => [.wr .cmd 0x06#8, .wait]
  | .nack => [.wr .cmd 0x07#8, .wait]
  | .probe a => [.wr .addr a, .wr .cmd 0x08#8, .wait, .rd .status]
  | .speed k => [.wr .ctrl (speedByte k)]

/-- The host steps of a list of pseudo-instructions. -/
def assembleAll (ps : List Pseudo) : List HostOp := (ps.flatMap expand).map assemble

end Sys2Proof.Machine
end

