-- ==== Sys2Proof/Machine/Controller.lean ====
section
/-! DEFINITION. The Controller agent: the table of micro-programs and one Controller step (R66, R73). -/

namespace Sys2Proof.Machine

/-- prog(cmd), the table of rule R66. -/
def program : Instr → List MicroOp
  | .start => startProgram
  | .stop => stopProgram
  | .send => sendProgram
  | .read => readProgram
  | .waitack => waitackProgram
  | .ack => ackProgram
  | .nackc => nackcProgram
  | .probe => probeProgram

/-- The micro-op the Controller would execute next: prog(cmd)[upc], `none` when no command runs (R73). -/
def State.microOp? (s : State) : Option MicroOp :=
  match s.cmd with
  | some c => (program c)[s.upc]?
  | none => none

/-- One Controller turn (R73): when BUSY = 1 it executes prog(cmd)[upc]; when BUSY = 0 the Controller has no step and the turn
changes nothing. A state that R14's typing rules out stops by name (log 9). -/
def controllerStep (limit : Option Nat) (s : State) : Answer :=
  if s.busy then
    match s.microOp? with
    | some op => .next (runMicroOp limit op s)
    | none => .fault .microPcOutsideProgram
  else .next s

end Sys2Proof.Machine
end

