-- ==== Sys2Proof/Machine/Timing.lean ====
section
/-! DEFINITION. The census of the micro-programs (R72) and the lower bound on clocks (R128), for information: no step reads them. -/

namespace Sys2Proof.Machine

/-- How many micro-ops of a program satisfy a test. -/
def countOps (test : MicroOp → Bool) (p : List MicroOp) : Nat := (p.filter test).length

/-- SDA v or SDAB i (R74). -/
def drivesSda : MicroOp → Bool
  | .sda _ | .sdab _ => true
  | .scl0 | .scl1 | .wscl | .dly | .rxs | .aks | .finish => false

/-- One row of the census of R72. -/
structure Census where
  dly : Nat
  wscl : Nat
  sclFalls : Nat
  sdaDrives : Nat
  rxs : Nat
  aks : Nat
  deriving DecidableEq, Repr

/-- The census of a program (R72). -/
def census (p : List MicroOp) : Census where
  dly := countOps (· == .dly) p
  wscl := countOps (· == .wscl) p
  sclFalls := countOps (· == .scl0) p
  sdaDrives := countOps drivesSda p
  rxs := countOps (· == .rxs) p
  aks := countOps (· == .aks) p

/-- "A command takes at least DLYs(cmd) · T_DELAY(SPEED) controller clocks plus one clock per other micro-op plus the stretch
holds" (R128), with T_DELAY as an argument. -/
def minClocks (tDelay : Speed → Nat) (k : Speed) (c : Instr) : Nat :=
  countOps (· == .dly) (program c) * tDelay k + countOps (· != .dly) (program c)

/-- The same with the implementation's T_DELAY. -/
def minCommandClocks (k : Speed) (c : Instr) : Nat := minClocks Config.tDelay k c

end Sys2Proof.Machine
end

