-- ==== Sys2Proof/Machine/Agents.lean ====
section
/-! DEFINITION. The interleaving of the three agents: whose turn is next, and what a turn does (R6, R54). -/

namespace Sys2Proof.Machine

/-- The next turn and the state in which it is taken: the first of `schedule`, else a free value (R6, R17; log 1). -/
def State.nextTurn (s : State) : Turn × State :=
  match s.schedule with
  | t :: rest => (t, { s with schedule := rest })
  | [] => (Config.freeTurn s.draws, { s with draws := s.draws + 1 })

/-- One atomic step of one agent (R54). -/
def takeTurn (limit : Option Nat) (t : Turn) (s : State) : Answer :=
  match t with
  | .host => hostStep s
  | .controller => controllerStep limit s
  | .peer scl sda => .next (s.movePeer scl sda)

/-- The next turn, taken, with STRETCH_LIMIT as an argument (R7). -/
def stepWith (limit : Option Nat) (s : State) : Answer := takeTurn limit s.nextTurn.1 s.nextTurn.2

/-- Place one host step so that the very next step performs it: the Host's turn, and the step first in its program. -/
def State.withHostOp (op : HostOp) (s : State) : State :=
  { s with schedule := .host :: s.schedule, hostProg := op :: s.hostProg }

end Sys2Proof.Machine
end

