-- ==== Sys2Proof/Machine/Wire.lean ====
section
/-! DEFINITION. Observations of the wire (R11, R12): start and stop conditions. They are no state. -/

namespace Sys2Proof.Machine

/-- "SDA changes from 1 to 0 while SCL = 1 before and after the step" (R11). -/
def startCondition (s s' : State) : Bool := s.scl && s'.scl && s.sda && !s'.sda

/-- "SDA changes from 0 to 1 while SCL = 1 before and after the step" (R11). -/
def stopCondition (s s' : State) : Bool := s.scl && s'.scl && !s.sda && s'.sda

end Sys2Proof.Machine
end

