-- ==== Sys2Proof/Machine/Step.lean ====
section
/-! DEFINITION. One step of the machine: the next turn, taken, at the implementation's STRETCH_LIMIT. -/

namespace Sys2Proof.Machine

/-- One atomic step of one agent (R54). -/
def step (s : State) : Host.Outcome State Fault Refusal := stepWith Config.stretchLimit s

/-- The state in which the very next step is the Host's CMD write of the table word's byte, which is how an instruction is issued
(R47, R48; log 2). -/
def State.withFetchWord (s : State) (nbits w : Nat) : State :=
  s.withHostOp (.write Reg.cmd.offset (tableByte nbits w))

end Sys2Proof.Machine
end

