-- ==== Sys2Proof/Safety.lean ====
section
/-! DEFINITION. The words claims about the machine are stated in: what the next step is, the invariant of R14, R23, R66 and R76,
the end of a run, runs at a given STRETCH_LIMIT, the samples of a run. -/

namespace Sys2Proof.Machine

/-- The state in which the next turn is taken: the turn is off the schedule, or drawn. -/
def State.atTurn (s : State) : State := s.nextTurn.2

/-- The next step is a Controller turn that executes `op`. -/
def State.aboutTo (op : MicroOp) (s : State) : Bool :=
  (s.nextTurn.1 == .controller) && s.busy && (s.microOp? == some op)

/-- The next step is the Host's, and it performs `op`. -/
def State.hostNext (op : HostOp) (s : State) : Bool :=
  (s.nextTurn.1 == .host) && (s.hostProg.head? == some op)

/-- The state in which that host step takes effect: its turn and the step itself are used up. -/
def State.atHostOp (s : State) : State := { s.atTurn with hostProg := s.hostProg.tail }

/-- What a micro-op drives on the clock line, if it drives it (R75). -/
def sclDrive : MicroOp → Option Bit
  | .scl0 => some false
  | .scl1 => some true
  | .sda _ | .sdab _ | .wscl | .dly | .rxs | .aks | .finish => none

/-- What a micro-op drives on the data line when `txl` is the byte being serialized, if it drives it (R74). -/
def sdaDrive (txl : Byte) : MicroOp → Option Bit
  | .sda v => some v
  | .sdab i => some (txl.getLsbD i)
  | .scl0 | .scl1 | .wscl | .dly | .rxs | .aks | .finish => none

/-- The last level that a run of micro-ops drove, if any drove one. -/
def lastDrive (drive : MicroOp → Option Bit) : List MicroOp → Option Bit
  | [] => none
  | op :: rest => (lastDrive drive rest).or (drive op)

/-- The part of the running command's micro-program that has been executed. -/
def State.executed (s : State) : List MicroOp :=
  match s.cmd with
  | some c => (program c).take s.upc
  | none => []

/-- BUSY is 1 exactly when cmd ≠ none (R23); `upc` is below the length of cmd's micro-program (R14), and 0 when none runs. -/
abbrev State.SequencerWf (s : State) : Prop :=
  s.busy = s.cmd.isSome ∧ (∀ c ∈ s.cmd, s.upc < (program c).length) ∧ (s.cmd = none → s.upc = 0)

/-- The outputs are what the executed micro-ops of the running command drove last (R16, R74, R75). -/
abbrev State.LinesFollowProgram (s : State) : Prop :=
  (∀ v ∈ lastDrive sclDrive s.executed, s.sclO = v) ∧ (∀ v ∈ lastDrive (sdaDrive s.txl) s.executed, s.sdaO = v)

/-- `stallCnt` is 0 outside a WSCL, and stays below the limit where there is one (R35, R76). -/
abbrev State.StallWf (limit : Option Nat) (s : State) : Prop :=
  (s.microOp? ≠ some .wscl → s.stallCnt = 0) ∧ (∀ n ∈ limit, s.stallCnt < n)

/-- The invariant of the machine at STRETCH_LIMIT = `limit`. -/
abbrev State.Inv (limit : Option Nat) (s : State) : Prop :=
  s.SequencerWf ∧ s.LinesFollowProgram ∧ s.StallWf limit

/-- A STRETCH_LIMIT of R7: "some N needs N ≥ 1". -/
abbrev LimitLegal (limit : Option Nat) : Prop := ∀ n ∈ limit, 1 ≤ n

/-- "A run of a host program ends when the Host has performed its last access and BUSY = 0" (R127). -/
abbrev State.Finished (s : State) : Prop := s.hostProg = [] ∧ s.busy = false

/-- `n` steps with STRETCH_LIMIT as an argument (R7), stopping at the first fault or refusal. -/
def runWith (limit : Option Nat) : Nat → State → Answer
  | 0, s => .next s
  | n + 1, s =>
    match stepWith limit s with
    | .next t => runWith limit n t
    | .fault r => .fault r
    | .refused r => .refused r

/-- `n` steps of the machine. -/
def run (n : Nat) (s : State) : Answer := runWith Config.stretchLimit n s

/-- The next `n` turns are the Controller's. -/
def State.withControllerTurns (n : Nat) (s : State) : State :=
  { s with schedule := List.replicate n .controller ++ s.schedule }

/-- The SDA levels at the RXS micro-ops of the next `n` steps, in the order they were taken (R78). -/
def samples : Nat → State → List Bit
  | 0, _ => []
  | n + 1, s =>
    match step s with
    | .next t => (if s.aboutTo .rxs then [s.sda] else []) ++ samples n t
    | .fault _ | .refused _ => []

/-- The SDA levels in the SCL-high phases of the next `n` steps: SDA at each WSCL poll that reads SCL = 1 (R87 (e)). -/
def highLevels : Nat → State → List Bit
  | 0, _ => []
  | n + 1, s =>
    match step s with
    | .next t => (if s.aboutTo .wscl && s.scl then [s.sda] else []) ++ highLevels n t
    | .fault _ | .refused _ => []

/-- The SCL levels at the WSCL polls of the next `n` steps, at STRETCH_LIMIT = `limit`, in the order they were read (R76). -/
def pollLevels (limit : Option Nat) : Nat → State → List Bit
  | 0, _ => []
  | n + 1, s =>
    match stepWith limit s with
    | .next t => (if s.aboutTo .wscl then [s.scl] else []) ++ pollLevels limit n t
    | .fault _ | .refused _ => []

/-- Each of the next `n` steps leaves command `c` running. -/
def keepsRunning (c : Instr) : Nat → State → Bool
  | 0, _ => true
  | n + 1, s =>
    match step s with
    | .next t => (t.cmd == some c) && keepsRunning c n t
    | .fault _ | .refused _ => false

end Sys2Proof.Machine
end

