-- ==== Sys2Proof/Certificates/Slice0/Obligations.lean ====
section
/-! DEFINITION. The statements for the provers. Each docstring names the rule of spec/ it formalises. -/

open Sys2Proof Sys2Proof.Machine

/-! ### Encoding -/

/-- R60, R68: the opcode map, and every other byte value is reserved. -/
def Obligations.OpcodeMap : Prop :=
  decode 0x01#8 = .ok .start ∧ decode 0x02#8 = .ok .stop ∧ decode 0x03#8 = .ok .send ∧ decode 0x04#8 = .ok .read ∧
  decode 0x05#8 = .ok .waitack ∧ decode 0x06#8 = .ok .ack ∧ decode 0x07#8 = .ok .nackc ∧ decode 0x08#8 = .ok .probe ∧
  ∀ v : Byte, v = 0x00#8 ∨ 0x09#8 ≤ v → decode v = .error .reserved

/-- Decode and encode agree on all eight commands and all 256 byte values (from R59, R60). -/
def Obligations.DecodeInvertsEncode : Prop := ∀ (v : Byte) (i : Instr), decode v = .ok i ↔ v = encode i

/-- R70 (with R69): the expansion of each pseudo-instruction into host steps, the bytes written out. -/
def Obligations.PseudoExpansions : Prop :=
  (∀ b a : Byte,
    assembleAll [.start] = [.write 0x1#3 0x01#8, .wait] ∧
    assembleAll [.stop] = [.write 0x1#3 0x02#8, .wait] ∧
    assembleAll [.send b] = [.write 0x3#3 b, .write 0x1#3 0x03#8, .wait] ∧
    assembleAll [.read] = [.write 0x1#3 0x04#8, .wait, .read 0x4#3] ∧
    assembleAll [.waitack] = [.write 0x1#3 0x05#8, .wait, .read 0x2#3] ∧
    assembleAll [.ack] = [.write 0x1#3 0x06#8, .wait] ∧
    assembleAll [.nack] = [.write 0x1#3 0x07#8, .wait] ∧
    assembleAll [.probe a] = [.write 0x5#3 a, .write 0x1#3 0x08#8, .wait, .read 0x2#3] ∧
    assembleAll [.speed .standard] = [.write 0x0#3 0x00#8] ∧
    assembleAll [.speed .fast] = [.write 0x0#3 0x01#8])

/-- R13: the slave address byte is the 7-bit address shifted left one bit, OR'd with the direction bit (WRITE 0, READ 1). -/
def Obligations.AddressByte : Prop :=
  ∀ a : Addr7,
    addrByte a .write = a.setWidth 8 <<< 1 ∧
    addrByte a .read = (a.setWidth 8 <<< 1) ||| 0x01#8

/-- R75, R82: in every micro-program each SCL1 is immediately followed by WSCL, and END is the last micro-op and stands nowhere
else. -/
def Obligations.MicroProgramsWellFormed : Prop := ∀ c : Instr, MicroOp.programWellFormed (program c) = true

/-- R66 and R72: the eight micro-programs written out, BIT_TX and BIT_RX in full, their lengths and their census; the last column
of R72 is the last level the program drives on each line, none where it drives none. -/
def Obligations.MicroProgramCensus : Prop :=
  (program .start = [.sda true, .scl1, .wscl, .dly, .sda false, .dly, .scl0, .finish] ∧
   program .stop = [.sda false, .scl1, .wscl, .dly, .sda true, .finish] ∧
   program .send = [7, 6, 5, 4, 3, 2, 1, 0].flatMap (fun i : Fin 8 => [.sdab i, .dly, .scl1, .wscl, .dly, .scl0]) ++
     [.sda true, .finish] ∧
   program .read = (List.replicate 8 [.scl1, .wscl, .dly, .rxs, .scl0, .dly]).flatten ++ [.finish] ∧
   program .waitack = [.sda true, .dly, .scl1, .wscl, .dly, .aks, .scl0, .dly, .finish] ∧
   program .ack = [.sda false, .dly, .scl1, .wscl, .dly, .scl0, .dly, .finish] ∧
   program .nackc = [.sda true, .dly, .scl1, .wscl, .dly, .scl0, .dly, .finish] ∧
   program .probe = (program .start).dropLast ++ (program .send).dropLast ++ (program .waitack).dropLast ++
     (program .stop).dropLast ++ [.finish]) ∧
  (census (program .start) = ⟨2, 1, 1, 2, 0, 0⟩ ∧ (program .start).length = 8 ∧
   census (program .stop) = ⟨1, 1, 0, 2, 0, 0⟩ ∧ (program .stop).length = 6 ∧
   census (program .send) = ⟨16, 8, 8, 9, 0, 0⟩ ∧ (program .send).length = 50 ∧
   census (program .read) = ⟨16, 8, 8, 0, 8, 0⟩ ∧ (program .read).length = 49 ∧
   census (program .waitack) = ⟨3, 1, 1, 1, 0, 1⟩ ∧ (program .waitack).length = 9 ∧
   census (program .ack) = ⟨3, 1, 1, 1, 0, 0⟩ ∧ (program .ack).length = 8 ∧
   census (program .nackc) = ⟨3, 1, 1, 1, 0, 0⟩ ∧ (program .nackc).length = 8 ∧
   census (program .probe) = ⟨22, 11, 10, 14, 0, 1⟩ ∧ (program .probe).length = 70) ∧
  ∀ (txl : Byte) (c : Instr),
    (lastDrive sclDrive (program c), lastDrive (sdaDrive txl) (program c)) = (match c with
      | .start => (some false, some false)
      | .stop => (some true, some true)
      | .send => (some false, some true)
      | .read => (some false, none)
      | .waitack => (some false, some true)
      | .ack => (some false, some false)
      | .nackc => (some false, some true)
      | .probe => (some true, some true))

/-! ### What a step does -/

/-- A step takes the next turn of the schedule; with none fixed, a free turn (the model's choice, log 1; R6, R54). -/
def Obligations.StepTakesNextTurn : Prop :=
  (∀ (s : State) (t : Turn) (ts : List Turn), s.schedule = t :: ts →
    step s = takeTurn Config.stretchLimit t { s with schedule := ts }) ∧
  (∀ s : State, s.schedule = [] →
    step s = takeTurn Config.stretchLimit (Config.freeTurn s.draws) { s with draws := s.draws + 1 })

/-- A step whose host access is a CMD write of a byte that decodes to `i` is exec of `i`, in the state where the turn and the host
step are used up; the write may be W(0x1, v) or the same access by host address, and withFetchWord places exactly such a write
(R47, R48; log 2). -/
def Obligations.StepRunsDecodedCommand : Prop :=
  ∀ (s : State) (v : Byte) (i : Instr), decode v = .ok i → i.wellFormed →
    (s.hostNext (.write 0x1#3 v) → step s = exec i s.atHostOp) ∧
    (s.hostNext (.busWrite (Config.baseAddr + 1) [v]) → step s = exec i s.atHostOp) ∧
    step (s.withFetchWord 8 (encode i).toNat) = exec i s

/-- R73: the Controller has a step exactly when BUSY = 1; it executes prog(cmd)[upc]. -/
def Obligations.ControllerStepRunsMicroOp : Prop :=
  ∀ s : State, s.nextTurn.1 = .controller →
    (s.busy = false → step s = .next s.atTurn) ∧
    (∀ (c : Instr) (op : MicroOp), s.busy = true → s.cmd = some c → (program c)[s.upc]? = some op →
      step s = .next (runMicroOp Config.stretchLimit op s.atTurn))

/-- R74, R75: the line drivers. -/
def Obligations.LineDrivers : Prop :=
  ∀ s : State,
    (∀ v, s.aboutTo (.sda v) → step s = .next { s.atTurn with sdaO := v, upc := s.upc + 1 }) ∧
    (∀ i, s.aboutTo (.sdab i) → step s = .next { s.atTurn with sdaO := s.txl.getLsbD i, upc := s.upc + 1 }) ∧
    (s.aboutTo .scl0 → step s = .next { s.atTurn with sclO := false, upc := s.upc + 1 }) ∧
    (s.aboutTo .scl1 → step s = .next { s.atTurn with sclO := true, upc := s.upc + 1 })

/-- R77, R78, R79: DLY, the receive sample and the acknowledge sample. -/
def Obligations.DelayAndSamplers : Prop :=
  ∀ s : State,
    (s.aboutTo .dly → step s = .next { s.atTurn with upc := s.upc + 1 }) ∧
    (s.aboutTo .rxs → step s = .next { s.atTurn with
      sh := BitVec.ofNat 8 (2 * s.sh.toNat + (s.sdaO && s.pSda).toNat), upc := s.upc + 1 }) ∧
    (s.aboutTo .aks → step s = .next { s.atTurn with nack := s.sdaO && s.pSda, upc := s.upc + 1 })

/-- R76 and R35: WSCL at every STRETCH_LIMIT: advance on SCL = 1, else count and hold, or abort. That a low poll is counted with no
limit too is R35's reading (log 10). -/
def Obligations.ClockStretchDetector : Prop :=
  ∀ (limit : Option Nat) (s : State), s.aboutTo .wscl →
    ((s.sclO && s.pScl) = true → stepWith limit s = .next { s.atTurn with stallCnt := 0, upc := s.upc + 1 }) ∧
    ((s.sclO && s.pScl) = false →
      (limit = none → stepWith limit s = .next { s.atTurn with stallCnt := s.stallCnt + 1 }) ∧
      (∀ n, limit = some n → s.stallCnt + 1 < n →
        stepWith limit s = .next { s.atTurn with stallCnt := s.stallCnt + 1 }) ∧
      (∀ n, limit = some n → n ≤ s.stallCnt + 1 →
        stepWith limit s = .next { s.atTurn with
          errStall := true, cmd := none, busy := false, upc := 0, stallCnt := 0 }))

/-- R82: END is the last micro-op of every program and stands nowhere else; it commits the result, clears cmd, BUSY and upc,
changes no line, and leaves the Controller no micro-op to execute. -/
def Obligations.EndCommits : Prop :=
  (∀ c : Instr, endsOnce (program c) = true) ∧
  ∀ s : State, s.aboutTo .finish →
    (s.cmd = some .read →
      step s = .next { s.atTurn with rxdata := s.sh, cmd := none, busy := false, upc := 0 }) ∧
    (s.cmd = some .probe →
      step s = .next { s.atTurn with present := !s.nack, cmd := none, busy := false, upc := 0 }) ∧
    (s.cmd ≠ some .read → s.cmd ≠ some .probe →
      step s = .next { s.atTurn with cmd := none, busy := false, upc := 0 }) ∧
    (∀ t, step s = .next t → t.busy = false ∧ t.microOp? = none ∧ t.sclO = s.sclO ∧ t.sdaO = s.sdaO)

/-- R80: a micro-op other than END that neither holds nor aborts advances upc by exactly 1, in the same command. -/
def Obligations.MicroOpAdvancesByOne : Prop :=
  ∀ (limit : Option Nat) (s t : State) (op : MicroOp), s.aboutTo op → op ≠ .finish → stepWith limit s = .next t →
    (t.upc = s.upc + 1 ∧ t.cmd = s.cmd ∧ t.busy = true) ∨
    (op = .wscl ∧ (s.sclO && s.pScl) = false)

/-- R17: a Peer step sets each of its outputs to any value, and nothing else; no other agent's step changes them. -/
def Obligations.PeerMoves : Prop :=
  ∀ s : State,
    (∀ scl sda, s.nextTurn.1 = .peer scl sda → step s = .next { s.atTurn with pScl := scl, pSda := sda }) ∧
    (∀ t, step s = .next t → t.pScl ≠ s.pScl ∨ t.pSda ≠ s.pSda → s.nextTurn.1 = .peer t.pScl t.pSda)

/-- R110: idle, with no host step and no Peer move, the block retains all its state. -/
def Obligations.IdleRetainsState : Prop :=
  ∀ s : State, s.Finished → s.nextTurn.1 = .host ∨ s.nextTurn.1 = .controller → step s = .next s.atTurn

/-! ### Reset -/

/-- R38: the value of every element of the Controller and the Host after reset; the Peer's outputs are not reset. -/
def Obligations.ResetValues : Prop :=
  State.reset.sclO = true ∧ State.reset.sdaO = true ∧ State.reset.ctrlSpeed = .standard ∧
  State.reset.busy = false ∧ State.reset.nack = false ∧ State.reset.present = false ∧
  State.reset.errCmd = false ∧ State.reset.errBusy = false ∧ State.reset.errStall = false ∧
  State.reset.txdata = 0x00#8 ∧ State.reset.rxdata = 0x00#8 ∧ State.reset.addr = 0x00#7 ∧
  State.reset.cmd = none ∧ State.reset.upc = 0 ∧ State.reset.txl = 0x00#8 ∧ State.reset.sh = 0x00#8 ∧
  State.reset.stallCnt = 0 ∧
  ∀ s : State, s.resetBlock = { State.reset with
    pScl := s.pScl, pSda := s.pSda,
    hostProg := s.hostProg, schedule := s.schedule, draws := s.draws, returned := s.returned }

/-- R111, R113: the Host's reset step, in every state, a command running or not; the Peer's outputs stay. -/
def Obligations.ResetStep : Prop :=
  ∀ s : State, s.hostNext .reset →
    step s = .next { s.atHostOp with
      sclO := true, sdaO := true, ctrlSpeed := .standard, busy := false, nack := false, present := false,
      errCmd := false, errBusy := false, errStall := false, txdata := 0x00#8, rxdata := 0x00#8, addr := 0x00#7,
      cmd := none, upc := 0, txl := 0x00#8, sh := 0x00#8, stallCnt := 0 }

/-! ### The register window -/

/-- R42: what RegRead returns at each offset; it changes no state of the block (the byte goes to the model's list of returned
bytes, log 3). -/
def Obligations.RegisterReads : Prop :=
  ∀ (s : State) (off : Offset), s.hostNext (.read off) →
    step s = .next { s.atHostOp with returned :=
      (if off = 0x0#3 then (if s.ctrlSpeed = .fast then 0x01#8 else 0x00#8)
       else if off = 0x2#3 then
        BitVec.ofBoolListBE [s.sdaO && s.pSda, s.sclO && s.pScl, s.errStall, s.errBusy, s.errCmd, s.present, s.nack, s.busy]
       else if off = 0x3#3 then s.txdata
       else if off = 0x4#3 then s.rxdata
       else if off = 0x5#3 then s.addr.setWidth 8
       else 0x00#8) :: s.returned }

/-- R44: a CTRL write. -/
def Obligations.CtrlWrite : Prop :=
  ∀ (s : State) (v : Byte), s.hostNext (.write 0x0#3 v) →
    (s.busy = true → step s = .next { s.atHostOp with errBusy := true }) ∧
    (s.busy = false → step s = .next { s.atHostOp with ctrlSpeed := if v.getLsbD 0 then .fast else .standard })

/-- R45: a STATUS write clears exactly the error bits written with 1, at any time. -/
def Obligations.StatusWriteClearsErrors : Prop :=
  ∀ (s : State) (v : Byte), s.hostNext (.write 0x2#3 v) →
    step s = .next { s.atHostOp with
      errCmd := if v.getLsbD 3 then false else s.errCmd
      errBusy := if v.getLsbD 4 then false else s.errBusy
      errStall := if v.getLsbD 5 then false else s.errStall }

/-- The effects of TXDATA and ADDR writes, at any time (from R46, which also says that a running command is not affected:
`RunningCommandIgnoresOperandRegisters`). -/
def Obligations.OperandRegisterWrites : Prop :=
  ∀ (s : State) (v : Byte),
    (s.hostNext (.write 0x3#3 v) → step s = .next { s.atHostOp with txdata := v }) ∧
    (s.hostNext (.write 0x5#3 v) → step s = .next { s.atHostOp with addr := v.extractLsb' 0 7 })

/-- R31, with R29's "Host writes are ignored": writes to RXDATA and to offsets 0x6 and 0x7 change nothing, and 0x6, 0x7 read 0x00. -/
def Obligations.IgnoredWrites : Prop :=
  ∀ (s : State) (off : Offset),
    (∀ v, off = 0x4#3 ∨ off = 0x6#3 ∨ off = 0x7#3 → s.hostNext (.write off v) → step s = .next s.atHostOp) ∧
    (off = 0x6#3 ∨ off = 0x7#3 → s.hostNext (.read off) →
      step s = .next { s.atHostOp with returned := 0x00#8 :: s.returned })

/-- R94: a reserved value written to CMD while BUSY = 0 sets ERR_CMD and does nothing else. -/
def Obligations.ReservedCommand : Prop :=
  ∀ (s : State) (v : Byte), s.busy = false → (v = 0x00#8 ∨ 0x09#8 ≤ v) → s.hostNext (.write 0x1#3 v) →
    step s = .next { s.atHostOp with errCmd := true }

/-- R95: every write to CMD or CTRL while BUSY = 1, reserved values among them, sets ERR_BUSY and does nothing else; writes to
TXDATA, ADDR and STATUS while busy raise no error. -/
def Obligations.BusyOverrun : Prop :=
  (∀ (s : State) (off : Offset) (v : Byte), s.busy = true → off = 0x0#3 ∨ off = 0x1#3 → s.hostNext (.write off v) →
    step s = .next { s.atHostOp with errBusy := true }) ∧
  (∀ (s : State) (off : Offset) (v : Byte), s.busy = true → off = 0x2#3 ∨ off = 0x3#3 ∨ off = 0x5#3 →
    s.hostNext (.write off v) →
    ∃ t, step s = .next t ∧ (t.errBusy = true → s.errBusy = true) ∧ (t.errCmd = true → s.errCmd = true) ∧
      (t.errStall = true → s.errStall = true))

/-- Every register write answers a next state and leaves all four line outputs alone (R43); while a command runs it leaves the
sequencer and the results alone too (R46, R57, R95). -/
def Obligations.RegisterWriteFrame : Prop :=
  ∀ (s : State) (off : Offset) (v : Byte), s.hostNext (.write off v) →
    ∃ t, step s = .next t ∧
      t.sclO = s.sclO ∧ t.sdaO = s.sdaO ∧ t.pScl = s.pScl ∧ t.pSda = s.pSda ∧
      t.nack = s.nack ∧ t.present = s.present ∧ t.rxdata = s.rxdata ∧ t.returned = s.returned ∧
      (s.busy = true → t.busy = true ∧ t.cmd = s.cmd ∧ t.upc = s.upc ∧ t.txl = s.txl ∧ t.sh = s.sh ∧
        t.stallCnt = s.stallCnt ∧ t.ctrlSpeed = s.ctrlSpeed)

/-- Accesses by host address: one byte inside the window is the register access; any other is refused, by name (R10, R50, R52;
which name an access outside the window of another width gets is the model's choice, log 12). -/
def Obligations.BusAccesses : Prop :=
  ∀ (s : State) (address : Nat),
    (∀ off : Offset, address = Config.baseAddr + off.toNat →
      (s.hostNext (.busRead address 1) →
        step s = .next { s.atHostOp with returned := s.regRead off :: s.returned }) ∧
      (∀ v, s.hostNext (.busWrite address [v]) → step s = regWrite off v s.atHostOp) ∧
      (∀ n, n ≠ 1 → s.hostNext (.busRead address n) → step s = .refused .accessWidth) ∧
      (∀ data, data.length ≠ 1 → s.hostNext (.busWrite address data) → step s = .refused .accessWidth)) ∧
    (address < Config.baseAddr ∨ Config.baseAddr + 8 ≤ address →
      (∀ n, s.hostNext (.busRead address n) → step s = .refused .outsideWindow) ∧
      (∀ data, s.hostNext (.busWrite address data) → step s = .refused .outsideWindow))

/-- From R69: `wait` reads STATUS, and repeats until bit 0 is 0. That each poll is one step, and that the wait stays the next host
step while BUSY = 1, so that no reset of the program overtakes it, are the model's choices (logs 18, 21). -/
def Obligations.WaitLoop : Prop :=
  ∀ s : State, s.hostNext .wait →
    (s.busy = true → step s = .next { s.atTurn with returned := s.statusByte :: s.returned }) ∧
    (s.busy = false → step s = .next { s.atHostOp with returned := s.statusByte :: s.returned })

/-! ### Issuing a command -/

/-- R47, a CMD write of each of the eight opcodes: everything else of the state is unchanged. While BUSY = 1 it is dropped with
ERR_BUSY (R95). -/
def Obligations.CommandIssue : Prop :=
  (∀ (i : Instr) (s : State), s.busy = true → exec i s = .next { s with errBusy := true }) ∧
  ∀ s : State, s.busy = false →
    exec .start s = .next { s with cmd := some .start, busy := true, upc := 0, sh := 0x00#8, stallCnt := 0 } ∧
    exec .stop s = .next { s with cmd := some .stop, busy := true, upc := 0, sh := 0x00#8, stallCnt := 0 } ∧
    exec .send s = .next { s with cmd := some .send, busy := true, upc := 0, sh := 0x00#8, stallCnt := 0, txl := s.txdata } ∧
    exec .read s = .next { s with cmd := some .read, busy := true, upc := 0, sh := 0x00#8, stallCnt := 0 } ∧
    exec .waitack s = .next { s with cmd := some .waitack, busy := true, upc := 0, sh := 0x00#8, stallCnt := 0 } ∧
    exec .ack s = .next { s with cmd := some .ack, busy := true, upc := 0, sh := 0x00#8, stallCnt := 0 } ∧
    exec .nackc s = .next { s with cmd := some .nackc, busy := true, upc := 0, sh := 0x00#8, stallCnt := 0 } ∧
    exec .probe s = .next { s with cmd := some .probe, busy := true, upc := 0, sh := 0x00#8, stallCnt := 0,
                                   txl := s.addr.setWidth 8 <<< 1 }

/-! ### Each command, from its issue to its END, the Peer not stretching the clock -/

/-- R85: START. -/
def Obligations.StartCompletes : Prop :=
  ∀ s : State, s.busy = false → s.pScl = true →
    ∃ t, exec .start s = .next t ∧
      run 8 (t.withControllerTurns 8) = .next { s with
        sclO := false, sdaO := false, sh := 0x00#8, stallCnt := 0, cmd := none, busy := false, upc := 0 }

/-- R86: STOP. -/
def Obligations.StopCompletes : Prop :=
  ∀ s : State, s.busy = false → s.pScl = true →
    ∃ t, exec .stop s = .next t ∧
      run 6 (t.withControllerTurns 6) = .next { s with
        sclO := true, sdaO := true, sh := 0x00#8, stallCnt := 0, cmd := none, busy := false, upc := 0 }

/-- R87: SEND. The levels on the wire are `SendWireLevels`. -/
def Obligations.SendCompletes : Prop :=
  ∀ s : State, s.busy = false → s.pScl = true →
    ∃ t, exec .send s = .next t ∧
      run 50 (t.withControllerTurns 50) = .next { s with
        sclO := false, sdaO := true, txl := s.txdata, sh := 0x00#8, stallCnt := 0, cmd := none, busy := false, upc := 0 }

/-- R88: READ with the Peer holding SDA at one level throughout: 0xFF when both release it, 0x00 when either pulls it low.
Peers that move are `ReadAssemblesByte`. -/
def Obligations.ReadCompletes : Prop :=
  ∀ s : State, s.busy = false → s.pScl = true →
    ∃ t, exec .read s = .next t ∧
      run 49 (t.withControllerTurns 49) = .next { s with
        sclO := false, rxdata := if s.sdaO && s.pSda then 0xFF#8 else 0x00#8,
        sh := if s.sdaO && s.pSda then 0xFF#8 else 0x00#8, stallCnt := 0, cmd := none, busy := false, upc := 0 }

/-- R89: WAITACK; NACK <- p_sda. -/
def Obligations.WaitackCompletes : Prop :=
  ∀ s : State, s.busy = false → s.pScl = true →
    ∃ t, exec .waitack s = .next t ∧
      run 9 (t.withControllerTurns 9) = .next { s with
        sclO := false, sdaO := true, nack := s.pSda, sh := 0x00#8, stallCnt := 0, cmd := none, busy := false, upc := 0 }

/-- R90: ACK; SDA stays low. -/
def Obligations.AckCompletes : Prop :=
  ∀ s : State, s.busy = false → s.pScl = true →
    ∃ t, exec .ack s = .next t ∧
      run 8 (t.withControllerTurns 8) = .next { s with
        sclO := false, sdaO := false, sh := 0x00#8, stallCnt := 0, cmd := none, busy := false, upc := 0 }

/-- R91: NACK; the STATUS flag NACK is unchanged. -/
def Obligations.NackCompletes : Prop :=
  ∀ s : State, s.busy = false → s.pScl = true →
    ∃ t, exec .nackc s = .next t ∧
      run 8 (t.withControllerTurns 8) = .next { s with
        sclO := false, sdaO := true, sh := 0x00#8, stallCnt := 0, cmd := none, busy := false, upc := 0 }

/-- R92: PROBE; NACK <- p_sda, PRESENT <- NOT NACK, the bus left idle. -/
def Obligations.ProbeCompletes : Prop :=
  ∀ s : State, s.busy = false → s.pScl = true →
    ∃ t, exec .probe s = .next t ∧
      run 70 (t.withControllerTurns 70) = .next { s with
        sclO := true, sdaO := true, txl := s.addr.setWidth 8 <<< 1, nack := s.pSda, present := !s.pSda,
        sh := 0x00#8, stallCnt := 0, cmd := none, busy := false, upc := 0 }

/-- R86 (b): a start condition followed at once by a stop condition leaves both lines high, the Peer releasing them. -/
def Obligations.StartThenStopLeavesBusIdle : Prop :=
  ∀ s : State, s.busy = false → s.pScl = true → s.pSda = true →
    ∃ t u v w, exec .start s = .next t ∧ run 8 (t.withControllerTurns 8) = .next u ∧
      exec .stop u = .next v ∧ run 6 (v.withControllerTurns 6) = .next w ∧
      w.scl = true ∧ w.sda = true ∧ w.busy = false

/-! ### Stretching, stalling, hanging -/

/-- R97, R76, R84: from the start of a WSCL of any command, through any steps of the three agents in which every poll reads SCL = 0
and fewer than N polls fall (any number, where there is no limit), the WSCL waits, having counted exactly those polls (with no limit
by log 10); and from there the N-th consecutive low poll aborts. Turns of the Controller alone, undisturbed, are said in full
beside it. The abort writes no line, and scl_o is 1 at every WSCL. -/
def Obligations.NthLowPollAborts : Prop :=
  (∀ (limit : Option Nat) (m : Nat) (s t : State),
    s.busy = true → s.microOp? = some .wscl → s.stallCnt = 0 → .reset ∉ s.hostProg →
    runWith limit m s = .next t → (∀ v ∈ pollLevels limit m s, v = false) →
    (∀ n ∈ limit, (pollLevels limit m s).length < n) →
    (t.stallCnt = (pollLevels limit m s).length ∧ t.busy = true ∧ t.cmd = s.cmd ∧ t.upc = s.upc ∧
      t.sclO = s.sclO ∧ t.sdaO = s.sdaO ∧ t.nack = s.nack ∧ t.present = s.present ∧ t.rxdata = s.rxdata) ∧
    (∀ n ∈ limit, n = (pollLevels limit m s).length + 1 → t.aboutTo .wscl → t.scl = false →
      stepWith limit t = .next { t.atTurn with
        errStall := true, cmd := none, busy := false, upc := 0, stallCnt := 0 })) ∧
  (∀ (n : Nat) (s : State), 1 ≤ n → s.busy = true → s.microOp? = some .wscl → s.scl = false → s.stallCnt = 0 →
    (∀ k, k < n → runWith (some n) k (s.withControllerTurns k) = .next { s with stallCnt := k }) ∧
    runWith (some n) n (s.withControllerTurns n) = .next { s with
      errStall := true, cmd := none, busy := false, upc := 0, stallCnt := 0 } ∧
    runWith none n (s.withControllerTurns n) = .next { s with stallCnt := n } ∧
    (s.SequencerWf → s.LinesFollowProgram → s.sclO = true))

/-- R99: with STRETCH_LIMIT = none, however the agents interleave, a WSCL under a Peer that keeps SCL low holds for ever: BUSY stays
1, the command never ends, and a host `wait` never ends, short of reset; no reset stands in the host program, where a wait would keep it from being reached
(log 21). -/
def Obligations.StalledClockHangs : Prop :=
  ∀ (n : Nat) (s t : State), s.busy = true → s.microOp? = some .wscl → s.pScl = false →
    n ≤ s.schedule.length → (∀ sda, .peer true sda ∉ s.schedule) → .reset ∉ s.hostProg →
    runWith none n s = .next t →
    t.busy = true ∧ t.cmd = s.cmd ∧ t.upc = s.upc ∧ t.sclO = s.sclO ∧ t.sdaO = s.sdaO ∧
    (∀ rest, s.hostProg = .wait :: rest → t.hostProg = s.hostProg)

/-! ### Invariants and what follows from them for every interleaving -/

/-- The invariant holds after reset (from R38, R23, R14). -/
def Obligations.InvariantAtReset : Prop := ∀ limit, LimitLegal limit → State.reset.Inv limit

/-- Every step keeps the invariant: BUSY = 1 exactly when a command runs, upc inside its micro-program and 0 when none runs, the
outputs those the executed micro-ops drove last, the stall count 0 outside a WSCL and below the limit where there is one (from R14,
R16, R23, R32, R35, R76). That the count has no bound without a limit is R35's reading (log 10). -/
def Obligations.StepKeepsInvariant : Prop :=
  (∀ (limit : Option Nat) (s t : State), LimitLegal limit → s.Inv limit → stepWith limit s = .next t → t.Inv limit) ∧
  (∀ s t : State, s.Inv Config.stretchLimit → step s = .next t → t.Inv Config.stretchLimit)

/-- A step from a state of the invariant stops only on a host access the model does not admit (R10). -/
def Obligations.StepsOnlyRefuseIllFormedAccesses : Prop :=
  ∀ s : State, s.SequencerWf →
    (∃ t, step s = .next t) ∨
    (∃ op r, s.hostNext op = true ∧ op.wellFormed Config.baseAddr = false ∧ step s = .refused r)

/-- R72, last column: the outputs each command leaves at its END, under every interleaving; and for READ, which leaves sda_o
unchanged, sda_o is throughout what it was when READ was entered (R88). -/
def Obligations.LinesAtEnd : Prop :=
  (∀ (n : Nat) (s t : State), s.SequencerWf → s.cmd = some .read → keepsRunning .read n s = true → run n s = .next t →
    t.sdaO = s.sdaO) ∧
  ∀ (s : State) (c : Instr), s.Inv Config.stretchLimit → s.cmd = some c → s.aboutTo .finish →
    ∃ t, step s = .next t ∧
      (t.sclO, t.sdaO) = (match c with
        | .start => (false, false)
        | .stop => (true, true)
        | .send => (false, true)
        | .read => (false, s.sdaO)
        | .waitack => (false, true)
        | .ack => (false, false)
        | .nackc => (false, true)
        | .probe => (true, true))

/-- R76: "since scl_o = 1 at every WSCL (rule R75), SCL = p_scl at each poll"; so an abort leaves scl_o = 1 (R97). -/
def Obligations.PollsSeeThePeer : Prop :=
  ∀ (limit : Option Nat) (s : State), s.Inv limit → s.aboutTo .wscl → s.sclO = true ∧ s.scl = s.pScl

/-- R87 (e), and R92's address byte: while SCL is high for bit 7 - k of SEND, or of PROBE's address byte, SDA = txl[7 - k] AND
p_sda, under every interleaving. -/
def Obligations.SendWireLevels : Prop :=
  ∀ (limit : Option Nat) (s : State) (k r : Nat), s.Inv limit → k < 8 → 3 ≤ r → r ≤ 5 →
    (s.cmd = some .send ∧ s.upc = 6 * k + r) ∨ (s.cmd = some .probe ∧ s.upc = 7 + 6 * k + r) →
    s.sclO = true ∧ s.sda = (s.txl.getLsbD (7 - k) && s.pSda)

/-- R88 to R92, R12: what orders the micro-ops of READ, WAITACK, ACK, NACK and PROBE's ninth clock, under every interleaving. scl_o
is 1 at every RXS and AKS; AKS samples p_sda; from its first SDA drive on, SDA is 0 in ACK and p_sda in NACK and WAITACK; and scl_o
is high and low where the listings of R88 to R92 have it so. -/
def Obligations.NinthClockAndSampleLevels : Prop :=
  ∀ (limit : Option Nat) (s : State), s.Inv limit →
    (s.aboutTo .rxs ∨ s.aboutTo .aks → s.sclO = true) ∧
    (s.aboutTo .aks → s.sda = s.pSda) ∧
    (s.cmd = some .ack → 1 ≤ s.upc → s.sda = false) ∧
    (s.cmd = some .nackc ∨ s.cmd = some .waitack → 1 ≤ s.upc → s.sda = s.pSda) ∧
    (s.cmd = some .ack ∨ s.cmd = some .nackc → 3 ≤ s.upc → s.sclO = decide (s.upc ≤ 5)) ∧
    (s.cmd = some .waitack → 3 ≤ s.upc → s.sclO = decide (s.upc ≤ 6)) ∧
    (∀ k r, k < 8 → 1 ≤ r → r ≤ 5 → s.cmd = some .read → s.upc = 6 * k + r → s.sclO = decide (r ≤ 4)) ∧
    (s.cmd = some .probe → 59 ≤ s.upc → s.upc ≤ 64 → s.sda = s.pSda ∧ s.sclO = decide (s.upc ≤ 62))

/-- R87 (a): a SEND entered with the clock low creates no start or stop condition by any of its Controller steps. -/
def Obligations.SendMakesNoCondition : Prop :=
  ∀ (s t : State), s.Inv Config.stretchLimit → s.cmd = some .send → (s.upc = 0 → s.sclO = false) →
    s.nextTurn.1 = .controller → step s = .next t →
    startCondition s t = false ∧ stopCondition s t = false

/-- R85, R86, R92: START's micro-op 4 is the start condition and STOP's micro-op 4 the stop condition on the wire when the Peer
releases both lines; so are PROBE's micro-ops 4 and 68. -/
def Obligations.ConditionsOnTheWire : Prop :=
  ∀ s : State, s.Inv Config.stretchLimit → s.pScl = true → s.pSda = true → s.nextTurn.1 = .controller →
    ((s.cmd = some .start ∨ s.cmd = some .probe) → s.upc = 4 →
      ∃ t, step s = .next t ∧ startCondition s t = true) ∧
    ((s.cmd = some .stop ∧ s.upc = 4) ∨ (s.cmd = some .probe ∧ s.upc = 68) →
      ∃ t, step s = .next t ∧ stopCondition s t = true)

/-- R88: however the Peer and the Host interleave, when READ reaches its END it has taken eight samples, and RXDATA becomes the
byte whose bit 7 - k is the k-th sample. -/
def Obligations.ReadAssemblesByte : Prop :=
  ∀ (n : Nat) (s t : State), s.SequencerWf → s.cmd = some .read → s.upc = 0 → s.sh = 0x00#8 →
    keepsRunning .read n s = true → run n s = .next t → t.aboutTo .finish →
    ∃ u, step t = .next u ∧ (samples n s).length = 8 ∧
      ∀ k, k < 8 → some (u.rxdata.getLsbD (7 - k)) = (samples n s)[k]?

/-- R120, R88 (a): a READ that runs with sda_o = 0 reads 0x00, whatever the Peer drives: each step keeps the accumulator 0 and
sda_o = 0 until the command is over, by its END (or by reset) with RXDATA = 0x00, or by a low poll's abort, which leaves RXDATA. -/
def Obligations.ReadAfterDriveLowReadsZero : Prop :=
  ∀ s t : State, s.SequencerWf → s.cmd = some .read → s.sdaO = false → s.sh = 0x00#8 → step s = .next t →
    (t.cmd = some .read ∧ t.sdaO = false ∧ t.sh = 0x00#8 ∧ t.rxdata = s.rxdata) ∨
    (t.cmd = none ∧ t.busy = false ∧ t.rxdata = 0x00#8 ∧ (s.aboutTo .finish ∨ s.hostNext .reset)) ∨
    (t.cmd = none ∧ t.busy = false ∧ t.rxdata = s.rxdata ∧ t.errStall = true ∧ s.aboutTo .wscl ∧ s.scl = false)

/-- R88's round trip, W1: for every byte b, the SDA levels of SEND of b in its SCL-high phases, the Peer released, replayed by the
Peer at the RXS steps of a READ, give b back in RXDATA. -/
def Obligations.SerializeDeserializeRoundTrip : Prop :=
  ∀ (b : Byte) (s : State), s.busy = false → s.pScl = true → s.pSda = true →
    ∃ t u v w, exec .send { s with txdata := b } = .next t ∧
      run 50 (t.withControllerTurns 50) = .next u ∧
      exec .read u = .next v ∧
      run 57 { v with
        schedule := (highLevels 50 (t.withControllerTurns 50)).flatMap
            (fun x => Turn.peer true x :: List.replicate 6 Turn.controller) ++ [.controller] ++ v.schedule } = .next w ∧
      w.rxdata = b ∧ w.busy = false

/-! ### Who may write what, over all agents and all commands -/

/-- R16: only the line micro-ops and reset change the controller's outputs; issuing a command leaves them as they were. -/
def Obligations.LineWriters : Prop :=
  (∀ s t : State, step s = .next t →
    (t.sclO ≠ s.sclO → s.aboutTo .scl0 ∨ s.aboutTo .scl1 ∨ s.hostNext .reset) ∧
    (t.sdaO ≠ s.sdaO → (∃ v, s.aboutTo (.sda v) = true) ∨ (∃ i, s.aboutTo (.sdab i) = true) ∨ s.hostNext .reset)) ∧
  (∀ (c : Instr) (s : State), ∃ u, exec c s = .next u ∧ u.sclO = s.sclO ∧ u.sdaO = s.sdaO)

/-- R24, R25 and R29: only AKS and reset change NACK; only the END of PROBE and reset change PRESENT; only the END of READ and
reset change RXDATA. -/
def Obligations.ResultWriters : Prop :=
  ∀ s t : State, step s = .next t →
    (t.nack ≠ s.nack → s.aboutTo .aks ∨ s.hostNext .reset) ∧
    (t.present ≠ s.present → (s.cmd = some .probe ∧ s.aboutTo .finish) ∨ s.hostNext .reset) ∧
    (t.rxdata ≠ s.rxdata → (s.cmd = some .read ∧ s.aboutTo .finish) ∨ s.hostNext .reset)

/-- R26: the error flags are sticky: a flag that goes from 1 to 0 was cleared by a host write of 1 to its STATUS bit, or by reset;
and no flag keeps a command from being accepted. -/
def Obligations.ErrorFlagsSticky : Prop :=
  (∀ s t : State, step s = .next t →
    (s.errCmd = true → t.errCmd = false → s.hostNext .reset ∨ ∃ v : Byte, v.getLsbD 3 = true ∧
      (s.hostNext (.write 0x2#3 v) ∨ s.hostNext (.busWrite (Config.baseAddr + 2) [v]))) ∧
    (s.errBusy = true → t.errBusy = false → s.hostNext .reset ∨ ∃ v : Byte, v.getLsbD 4 = true ∧
      (s.hostNext (.write 0x2#3 v) ∨ s.hostNext (.busWrite (Config.baseAddr + 2) [v]))) ∧
    (s.errStall = true → t.errStall = false → s.hostNext .reset ∨ ∃ v : Byte, v.getLsbD 5 = true ∧
      (s.hostNext (.write 0x2#3 v) ∨ s.hostNext (.busWrite (Config.baseAddr + 2) [v])))) ∧
  (∀ (c : Instr) (s : State), s.busy = false → ∃ t, exec c s = .next t ∧ t.cmd = some c ∧ t.busy = true)

/-- Only a Host step changes CTRL, TXDATA and ADDR (R14's owner column, R28), and CTRL never changes while BUSY = 1 short of reset
(R20, R95). -/
def Obligations.HostRegisterWriters : Prop :=
  ∀ s t : State, step s = .next t →
    (t.ctrlSpeed ≠ s.ctrlSpeed ∨ t.txdata ≠ s.txdata ∨ t.addr ≠ s.addr → s.nextTurn.1 = .host) ∧
    (t.ctrlSpeed ≠ s.ctrlSpeed → s.busy = false ∨ s.hostNext .reset)

/-- R47: a CMD write in its three branches, BUSY first, then a reserved value, then an accepted opcode with the operand of SEND and
PROBE latched; and it is the only way a command starts: the step after which another command runs than before it is such a write. -/
def Obligations.CmdWrite : Prop :=
  (∀ (s : State) (v : Byte), s.hostNext (.write 0x1#3 v) →
    (s.busy = true → step s = .next { s.atHostOp with errBusy := true }) ∧
    (s.busy = false → v = 0x00#8 ∨ 0x09#8 ≤ v → step s = .next { s.atHostOp with errCmd := true }) ∧
    (∀ c, s.busy = false → decode v = .ok c →
      step s = .next { s.atHostOp with
        cmd := some c, busy := true, upc := 0, sh := 0x00#8, stallCnt := 0,
        txl := if c = .send then s.txdata else if c = .probe then s.addr.concat false else s.txl })) ∧
  (∀ (s t : State) (c : Instr), step s = .next t → t.cmd = some c → s.cmd ≠ some c →
    s.busy = false ∧
    (s.hostNext (.write 0x1#3 (encode c)) ∨ s.hostNext (.busWrite (Config.baseAddr + 1) [encode c])))

/-- R46, R57: over any run of Controller and Peer turns, TXDATA, ADDR and CTRL.SPEED have no influence on what the running command
does. -/
def Obligations.RunningCommandIgnoresOperandRegisters : Prop :=
  ∀ (n : Nat) (s t : State) (v : Byte) (a : Addr7) (k : Speed),
    n ≤ s.schedule.length → .host ∉ s.schedule → run n s = .next t →
    run n { s with txdata := v, addr := a, ctrlSpeed := k } = .next { t with txdata := v, addr := a, ctrlSpeed := k }

/-- R24: no command but PROBE reads NACK: over any run of Controller and Peer turns its value before changes nothing but, until an
AKS overwrites it, NACK itself. -/
def Obligations.CommandsIgnoreNack : Prop :=
  ∀ (n : Nat) (s t : State) (b : Bit),
    n ≤ s.schedule.length → .host ∉ s.schedule → s.cmd ≠ some .probe → run n s = .next t →
    run n { s with nack := b } = .next t ∨ run n { s with nack := b } = .next { t with nack := b }

/-- R126: with the clock never stretched a command ends after exactly the micro-op count of R66: BUSY is 1 before, and 0 then. -/
def Obligations.CommandTakesItsMicroOpCount : Prop :=
  ∀ (c : Instr) (s : State), s.busy = false → s.pScl = true →
    ∃ t, exec c s = .next t ∧
      (∀ k, k < (program c).length → ∃ u, run k (t.withControllerTurns k) = .next u ∧ u.busy = true ∧ u.upc = k) ∧
      (∃ u, run (program c).length (t.withControllerTurns (program c).length) = .next u ∧ u.busy = false)
end

