-- ==== Sys2Proof/Laws/State.lean ====
section
/-! SUPPORT. What each update of the state does to each field, one lemma per field per update. -/

namespace Sys2Proof.Machine

variable (s : State)

/-! `driveScl` -/
@[simp] theorem driveScl_sclO (v : Bit) : (s.driveScl v).sclO = v := rfl
@[simp] theorem driveScl_sdaO (v : Bit) : (s.driveScl v).sdaO = s.sdaO := rfl
@[simp] theorem driveScl_pScl (v : Bit) : (s.driveScl v).pScl = s.pScl := rfl
@[simp] theorem driveScl_pSda (v : Bit) : (s.driveScl v).pSda = s.pSda := rfl
@[simp] theorem driveScl_ctrlSpeed (v : Bit) : (s.driveScl v).ctrlSpeed = s.ctrlSpeed := rfl
@[simp] theorem driveScl_busy (v : Bit) : (s.driveScl v).busy = s.busy := rfl
@[simp] theorem driveScl_nack (v : Bit) : (s.driveScl v).nack = s.nack := rfl
@[simp] theorem driveScl_present (v : Bit) : (s.driveScl v).present = s.present := rfl
@[simp] theorem driveScl_errCmd (v : Bit) : (s.driveScl v).errCmd = s.errCmd := rfl
@[simp] theorem driveScl_errBusy (v : Bit) : (s.driveScl v).errBusy = s.errBusy := rfl
@[simp] theorem driveScl_errStall (v : Bit) : (s.driveScl v).errStall = s.errStall := rfl
@[simp] theorem driveScl_txdata (v : Bit) : (s.driveScl v).txdata = s.txdata := rfl
@[simp] theorem driveScl_rxdata (v : Bit) : (s.driveScl v).rxdata = s.rxdata := rfl
@[simp] theorem driveScl_addr (v : Bit) : (s.driveScl v).addr = s.addr := rfl
@[simp] theorem driveScl_cmd (v : Bit) : (s.driveScl v).cmd = s.cmd := rfl
@[simp] theorem driveScl_upc (v : Bit) : (s.driveScl v).upc = s.upc := rfl
@[simp] theorem driveScl_txl (v : Bit) : (s.driveScl v).txl = s.txl := rfl
@[simp] theorem driveScl_sh (v : Bit) : (s.driveScl v).sh = s.sh := rfl
@[simp] theorem driveScl_stallCnt (v : Bit) : (s.driveScl v).stallCnt = s.stallCnt := rfl
@[simp] theorem driveScl_hostProg (v : Bit) : (s.driveScl v).hostProg = s.hostProg := rfl
@[simp] theorem driveScl_schedule (v : Bit) : (s.driveScl v).schedule = s.schedule := rfl
@[simp] theorem driveScl_draws (v : Bit) : (s.driveScl v).draws = s.draws := rfl
@[simp] theorem driveScl_returned (v : Bit) : (s.driveScl v).returned = s.returned := rfl

/-! `driveSda` -/
@[simp] theorem driveSda_sclO (v : Bit) : (s.driveSda v).sclO = s.sclO := rfl
@[simp] theorem driveSda_sdaO (v : Bit) : (s.driveSda v).sdaO = v := rfl
@[simp] theorem driveSda_pScl (v : Bit) : (s.driveSda v).pScl = s.pScl := rfl
@[simp] theorem driveSda_pSda (v : Bit) : (s.driveSda v).pSda = s.pSda := rfl
@[simp] theorem driveSda_ctrlSpeed (v : Bit) : (s.driveSda v).ctrlSpeed = s.ctrlSpeed := rfl
@[simp] theorem driveSda_busy (v : Bit) : (s.driveSda v).busy = s.busy := rfl
@[simp] theorem driveSda_nack (v : Bit) : (s.driveSda v).nack = s.nack := rfl
@[simp] theorem driveSda_present (v : Bit) : (s.driveSda v).present = s.present := rfl
@[simp] theorem driveSda_errCmd (v : Bit) : (s.driveSda v).errCmd = s.errCmd := rfl
@[simp] theorem driveSda_errBusy (v : Bit) : (s.driveSda v).errBusy = s.errBusy := rfl
@[simp] theorem driveSda_errStall (v : Bit) : (s.driveSda v).errStall = s.errStall := rfl
@[simp] theorem driveSda_txdata (v : Bit) : (s.driveSda v).txdata = s.txdata := rfl
@[simp] theorem driveSda_rxdata (v : Bit) : (s.driveSda v).rxdata = s.rxdata := rfl
@[simp] theorem driveSda_addr (v : Bit) : (s.driveSda v).addr = s.addr := rfl
@[simp] theorem driveSda_cmd (v : Bit) : (s.driveSda v).cmd = s.cmd := rfl
@[simp] theorem driveSda_upc (v : Bit) : (s.driveSda v).upc = s.upc := rfl
@[simp] theorem driveSda_txl (v : Bit) : (s.driveSda v).txl = s.txl := rfl
@[simp] theorem driveSda_sh (v : Bit) : (s.driveSda v).sh = s.sh := rfl
@[simp] theorem driveSda_stallCnt (v : Bit) : (s.driveSda v).stallCnt = s.stallCnt := rfl
@[simp] theorem driveSda_hostProg (v : Bit) : (s.driveSda v).hostProg = s.hostProg := rfl
@[simp] theorem driveSda_schedule (v : Bit) : (s.driveSda v).schedule = s.schedule := rfl
@[simp] theorem driveSda_draws (v : Bit) : (s.driveSda v).draws = s.draws := rfl
@[simp] theorem driveSda_returned (v : Bit) : (s.driveSda v).returned = s.returned := rfl

/-! `advance` -/
@[simp] theorem advance_sclO : (s.advance).sclO = s.sclO := rfl
@[simp] theorem advance_sdaO : (s.advance).sdaO = s.sdaO := rfl
@[simp] theorem advance_pScl : (s.advance).pScl = s.pScl := rfl
@[simp] theorem advance_pSda : (s.advance).pSda = s.pSda := rfl
@[simp] theorem advance_ctrlSpeed : (s.advance).ctrlSpeed = s.ctrlSpeed := rfl
@[simp] theorem advance_busy : (s.advance).busy = s.busy := rfl
@[simp] theorem advance_nack : (s.advance).nack = s.nack := rfl
@[simp] theorem advance_present : (s.advance).present = s.present := rfl
@[simp] theorem advance_errCmd : (s.advance).errCmd = s.errCmd := rfl
@[simp] theorem advance_errBusy : (s.advance).errBusy = s.errBusy := rfl
@[simp] theorem advance_errStall : (s.advance).errStall = s.errStall := rfl
@[simp] theorem advance_txdata : (s.advance).txdata = s.txdata := rfl
@[simp] theorem advance_rxdata : (s.advance).rxdata = s.rxdata := rfl
@[simp] theorem advance_addr : (s.advance).addr = s.addr := rfl
@[simp] theorem advance_cmd : (s.advance).cmd = s.cmd := rfl
@[simp] theorem advance_upc : (s.advance).upc = s.upc + 1 := rfl
@[simp] theorem advance_txl : (s.advance).txl = s.txl := rfl
@[simp] theorem advance_sh : (s.advance).sh = s.sh := rfl
@[simp] theorem advance_stallCnt : (s.advance).stallCnt = s.stallCnt := rfl
@[simp] theorem advance_hostProg : (s.advance).hostProg = s.hostProg := rfl
@[simp] theorem advance_schedule : (s.advance).schedule = s.schedule := rfl
@[simp] theorem advance_draws : (s.advance).draws = s.draws := rfl
@[simp] theorem advance_returned : (s.advance).returned = s.returned := rfl

/-! `countLowPoll` -/
@[simp] theorem countLowPoll_sclO : (s.countLowPoll).sclO = s.sclO := rfl
@[simp] theorem countLowPoll_sdaO : (s.countLowPoll).sdaO = s.sdaO := rfl
@[simp] theorem countLowPoll_pScl : (s.countLowPoll).pScl = s.pScl := rfl
@[simp] theorem countLowPoll_pSda : (s.countLowPoll).pSda = s.pSda := rfl
@[simp] theorem countLowPoll_ctrlSpeed : (s.countLowPoll).ctrlSpeed = s.ctrlSpeed := rfl
@[simp] theorem countLowPoll_busy : (s.countLowPoll).busy = s.busy := rfl
@[simp] theorem countLowPoll_nack : (s.countLowPoll).nack = s.nack := rfl
@[simp] theorem countLowPoll_present : (s.countLowPoll).present = s.present := rfl
@[simp] theorem countLowPoll_errCmd : (s.countLowPoll).errCmd = s.errCmd := rfl
@[simp] theorem countLowPoll_errBusy : (s.countLowPoll).errBusy = s.errBusy := rfl
@[simp] theorem countLowPoll_errStall : (s.countLowPoll).errStall = s.errStall := rfl
@[simp] theorem countLowPoll_txdata : (s.countLowPoll).txdata = s.txdata := rfl
@[simp] theorem countLowPoll_rxdata : (s.countLowPoll).rxdata = s.rxdata := rfl
@[simp] theorem countLowPoll_addr : (s.countLowPoll).addr = s.addr := rfl
@[simp] theorem countLowPoll_cmd : (s.countLowPoll).cmd = s.cmd := rfl
@[simp] theorem countLowPoll_upc : (s.countLowPoll).upc = s.upc := rfl
@[simp] theorem countLowPoll_txl : (s.countLowPoll).txl = s.txl := rfl
@[simp] theorem countLowPoll_sh : (s.countLowPoll).sh = s.sh := rfl
@[simp] theorem countLowPoll_stallCnt : (s.countLowPoll).stallCnt = s.stallCnt + 1 := rfl
@[simp] theorem countLowPoll_hostProg : (s.countLowPoll).hostProg = s.hostProg := rfl
@[simp] theorem countLowPoll_schedule : (s.countLowPoll).schedule = s.schedule := rfl
@[simp] theorem countLowPoll_draws : (s.countLowPoll).draws = s.draws := rfl
@[simp] theorem countLowPoll_returned : (s.countLowPoll).returned = s.returned := rfl

/-! `goIdle` -/
@[simp] theorem goIdle_sclO : (s.goIdle).sclO = s.sclO := rfl
@[simp] theorem goIdle_sdaO : (s.goIdle).sdaO = s.sdaO := rfl
@[simp] theorem goIdle_pScl : (s.goIdle).pScl = s.pScl := rfl
@[simp] theorem goIdle_pSda : (s.goIdle).pSda = s.pSda := rfl
@[simp] theorem goIdle_ctrlSpeed : (s.goIdle).ctrlSpeed = s.ctrlSpeed := rfl
@[simp] theorem goIdle_busy : (s.goIdle).busy = false := rfl
@[simp] theorem goIdle_nack : (s.goIdle).nack = s.nack := rfl
@[simp] theorem goIdle_present : (s.goIdle).present = s.present := rfl
@[simp] theorem goIdle_errCmd : (s.goIdle).errCmd = s.errCmd := rfl
@[simp] theorem goIdle_errBusy : (s.goIdle).errBusy = s.errBusy := rfl
@[simp] theorem goIdle_errStall : (s.goIdle).errStall = s.errStall := rfl
@[simp] theorem goIdle_txdata : (s.goIdle).txdata = s.txdata := rfl
@[simp] theorem goIdle_rxdata : (s.goIdle).rxdata = s.rxdata := rfl
@[simp] theorem goIdle_addr : (s.goIdle).addr = s.addr := rfl
@[simp] theorem goIdle_cmd : (s.goIdle).cmd = none := rfl
@[simp] theorem goIdle_upc : (s.goIdle).upc = 0 := rfl
@[simp] theorem goIdle_txl : (s.goIdle).txl = s.txl := rfl
@[simp] theorem goIdle_sh : (s.goIdle).sh = s.sh := rfl
@[simp] theorem goIdle_stallCnt : (s.goIdle).stallCnt = s.stallCnt := rfl
@[simp] theorem goIdle_hostProg : (s.goIdle).hostProg = s.hostProg := rfl
@[simp] theorem goIdle_schedule : (s.goIdle).schedule = s.schedule := rfl
@[simp] theorem goIdle_draws : (s.goIdle).draws = s.draws := rfl
@[simp] theorem goIdle_returned : (s.goIdle).returned = s.returned := rfl

/-! `deliver` -/
@[simp] theorem deliver_sclO (v : Byte) : (s.deliver v).sclO = s.sclO := rfl
@[simp] theorem deliver_sdaO (v : Byte) : (s.deliver v).sdaO = s.sdaO := rfl
@[simp] theorem deliver_pScl (v : Byte) : (s.deliver v).pScl = s.pScl := rfl
@[simp] theorem deliver_pSda (v : Byte) : (s.deliver v).pSda = s.pSda := rfl
@[simp] theorem deliver_ctrlSpeed (v : Byte) : (s.deliver v).ctrlSpeed = s.ctrlSpeed := rfl
@[simp] theorem deliver_busy (v : Byte) : (s.deliver v).busy = s.busy := rfl
@[simp] theorem deliver_nack (v : Byte) : (s.deliver v).nack = s.nack := rfl
@[simp] theorem deliver_present (v : Byte) : (s.deliver v).present = s.present := rfl
@[simp] theorem deliver_errCmd (v : Byte) : (s.deliver v).errCmd = s.errCmd := rfl
@[simp] theorem deliver_errBusy (v : Byte) : (s.deliver v).errBusy = s.errBusy := rfl
@[simp] theorem deliver_errStall (v : Byte) : (s.deliver v).errStall = s.errStall := rfl
@[simp] theorem deliver_txdata (v : Byte) : (s.deliver v).txdata = s.txdata := rfl
@[simp] theorem deliver_rxdata (v : Byte) : (s.deliver v).rxdata = s.rxdata := rfl
@[simp] theorem deliver_addr (v : Byte) : (s.deliver v).addr = s.addr := rfl
@[simp] theorem deliver_cmd (v : Byte) : (s.deliver v).cmd = s.cmd := rfl
@[simp] theorem deliver_upc (v : Byte) : (s.deliver v).upc = s.upc := rfl
@[simp] theorem deliver_txl (v : Byte) : (s.deliver v).txl = s.txl := rfl
@[simp] theorem deliver_sh (v : Byte) : (s.deliver v).sh = s.sh := rfl
@[simp] theorem deliver_stallCnt (v : Byte) : (s.deliver v).stallCnt = s.stallCnt := rfl
@[simp] theorem deliver_hostProg (v : Byte) : (s.deliver v).hostProg = s.hostProg := rfl
@[simp] theorem deliver_schedule (v : Byte) : (s.deliver v).schedule = s.schedule := rfl
@[simp] theorem deliver_draws (v : Byte) : (s.deliver v).draws = s.draws := rfl
@[simp] theorem deliver_returned (v : Byte) : (s.deliver v).returned = v :: s.returned := rfl

/-! `movePeer` -/
@[simp] theorem movePeer_sclO (a b : Bit) : (s.movePeer a b).sclO = s.sclO := rfl
@[simp] theorem movePeer_sdaO (a b : Bit) : (s.movePeer a b).sdaO = s.sdaO := rfl
@[simp] theorem movePeer_pScl (a b : Bit) : (s.movePeer a b).pScl = a := rfl
@[simp] theorem movePeer_pSda (a b : Bit) : (s.movePeer a b).pSda = b := rfl
@[simp] theorem movePeer_ctrlSpeed (a b : Bit) : (s.movePeer a b).ctrlSpeed = s.ctrlSpeed := rfl
@[simp] theorem movePeer_busy (a b : Bit) : (s.movePeer a b).busy = s.busy := rfl
@[simp] theorem movePeer_nack (a b : Bit) : (s.movePeer a b).nack = s.nack := rfl
@[simp] theorem movePeer_present (a b : Bit) : (s.movePeer a b).present = s.present := rfl
@[simp] theorem movePeer_errCmd (a b : Bit) : (s.movePeer a b).errCmd = s.errCmd := rfl
@[simp] theorem movePeer_errBusy (a b : Bit) : (s.movePeer a b).errBusy = s.errBusy := rfl
@[simp] theorem movePeer_errStall (a b : Bit) : (s.movePeer a b).errStall = s.errStall := rfl
@[simp] theorem movePeer_txdata (a b : Bit) : (s.movePeer a b).txdata = s.txdata := rfl
@[simp] theorem movePeer_rxdata (a b : Bit) : (s.movePeer a b).rxdata = s.rxdata := rfl
@[simp] theorem movePeer_addr (a b : Bit) : (s.movePeer a b).addr = s.addr := rfl
@[simp] theorem movePeer_cmd (a b : Bit) : (s.movePeer a b).cmd = s.cmd := rfl
@[simp] theorem movePeer_upc (a b : Bit) : (s.movePeer a b).upc = s.upc := rfl
@[simp] theorem movePeer_txl (a b : Bit) : (s.movePeer a b).txl = s.txl := rfl
@[simp] theorem movePeer_sh (a b : Bit) : (s.movePeer a b).sh = s.sh := rfl
@[simp] theorem movePeer_stallCnt (a b : Bit) : (s.movePeer a b).stallCnt = s.stallCnt := rfl
@[simp] theorem movePeer_hostProg (a b : Bit) : (s.movePeer a b).hostProg = s.hostProg := rfl
@[simp] theorem movePeer_schedule (a b : Bit) : (s.movePeer a b).schedule = s.schedule := rfl
@[simp] theorem movePeer_draws (a b : Bit) : (s.movePeer a b).draws = s.draws := rfl
@[simp] theorem movePeer_returned (a b : Bit) : (s.movePeer a b).returned = s.returned := rfl

/-! `clearErrors` -/
@[simp] theorem clearErrors_sclO (v : Byte) : (s.clearErrors v).sclO = s.sclO := rfl
@[simp] theorem clearErrors_sdaO (v : Byte) : (s.clearErrors v).sdaO = s.sdaO := rfl
@[simp] theorem clearErrors_pScl (v : Byte) : (s.clearErrors v).pScl = s.pScl := rfl
@[simp] theorem clearErrors_pSda (v : Byte) : (s.clearErrors v).pSda = s.pSda := rfl
@[simp] theorem clearErrors_ctrlSpeed (v : Byte) : (s.clearErrors v).ctrlSpeed = s.ctrlSpeed := rfl
@[simp] theorem clearErrors_busy (v : Byte) : (s.clearErrors v).busy = s.busy := rfl
@[simp] theorem clearErrors_nack (v : Byte) : (s.clearErrors v).nack = s.nack := rfl
@[simp] theorem clearErrors_present (v : Byte) : (s.clearErrors v).present = s.present := rfl
@[simp] theorem clearErrors_errCmd (v : Byte) : (s.clearErrors v).errCmd = (s.errCmd && !v.getLsbD 3) := rfl
@[simp] theorem clearErrors_errBusy (v : Byte) : (s.clearErrors v).errBusy = (s.errBusy && !v.getLsbD 4) := rfl
@[simp] theorem clearErrors_errStall (v : Byte) : (s.clearErrors v).errStall = (s.errStall && !v.getLsbD 5) := rfl
@[simp] theorem clearErrors_txdata (v : Byte) : (s.clearErrors v).txdata = s.txdata := rfl
@[simp] theorem clearErrors_rxdata (v : Byte) : (s.clearErrors v).rxdata = s.rxdata := rfl
@[simp] theorem clearErrors_addr (v : Byte) : (s.clearErrors v).addr = s.addr := rfl
@[simp] theorem clearErrors_cmd (v : Byte) : (s.clearErrors v).cmd = s.cmd := rfl
@[simp] theorem clearErrors_upc (v : Byte) : (s.clearErrors v).upc = s.upc := rfl
@[simp] theorem clearErrors_txl (v : Byte) : (s.clearErrors v).txl = s.txl := rfl
@[simp] theorem clearErrors_sh (v : Byte) : (s.clearErrors v).sh = s.sh := rfl
@[simp] theorem clearErrors_stallCnt (v : Byte) : (s.clearErrors v).stallCnt = s.stallCnt := rfl
@[simp] theorem clearErrors_hostProg (v : Byte) : (s.clearErrors v).hostProg = s.hostProg := rfl
@[simp] theorem clearErrors_schedule (v : Byte) : (s.clearErrors v).schedule = s.schedule := rfl
@[simp] theorem clearErrors_draws (v : Byte) : (s.clearErrors v).draws = s.draws := rfl
@[simp] theorem clearErrors_returned (v : Byte) : (s.clearErrors v).returned = s.returned := rfl

/-! `withControllerTurns` -/
@[simp] theorem withControllerTurns_sclO (n : Nat) : (s.withControllerTurns n).sclO = s.sclO := rfl
@[simp] theorem withControllerTurns_sdaO (n : Nat) : (s.withControllerTurns n).sdaO = s.sdaO := rfl
@[simp] theorem withControllerTurns_pScl (n : Nat) : (s.withControllerTurns n).pScl = s.pScl := rfl
@[simp] theorem withControllerTurns_pSda (n : Nat) : (s.withControllerTurns n).pSda = s.pSda := rfl
@[simp] theorem withControllerTurns_ctrlSpeed (n : Nat) : (s.withControllerTurns n).ctrlSpeed = s.ctrlSpeed := rfl
@[simp] theorem withControllerTurns_busy (n : Nat) : (s.withControllerTurns n).busy = s.busy := rfl
@[simp] theorem withControllerTurns_nack (n : Nat) : (s.withControllerTurns n).nack = s.nack := rfl
@[simp] theorem withControllerTurns_present (n : Nat) : (s.withControllerTurns n).present = s.present := rfl
@[simp] theorem withControllerTurns_errCmd (n : Nat) : (s.withControllerTurns n).errCmd = s.errCmd := rfl
@[simp] theorem withControllerTurns_errBusy (n : Nat) : (s.withControllerTurns n).errBusy = s.errBusy := rfl
@[simp] theorem withControllerTurns_errStall (n : Nat) : (s.withControllerTurns n).errStall = s.errStall := rfl
@[simp] theorem withControllerTurns_txdata (n : Nat) : (s.withControllerTurns n).txdata = s.txdata := rfl
@[simp] theorem withControllerTurns_rxdata (n : Nat) : (s.withControllerTurns n).rxdata = s.rxdata := rfl
@[simp] theorem withControllerTurns_addr (n : Nat) : (s.withControllerTurns n).addr = s.addr := rfl
@[simp] theorem withControllerTurns_cmd (n : Nat) : (s.withControllerTurns n).cmd = s.cmd := rfl
@[simp] theorem withControllerTurns_upc (n : Nat) : (s.withControllerTurns n).upc = s.upc := rfl
@[simp] theorem withControllerTurns_txl (n : Nat) : (s.withControllerTurns n).txl = s.txl := rfl
@[simp] theorem withControllerTurns_sh (n : Nat) : (s.withControllerTurns n).sh = s.sh := rfl
@[simp] theorem withControllerTurns_stallCnt (n : Nat) : (s.withControllerTurns n).stallCnt = s.stallCnt := rfl
@[simp] theorem withControllerTurns_hostProg (n : Nat) : (s.withControllerTurns n).hostProg = s.hostProg := rfl
@[simp] theorem withControllerTurns_schedule (n : Nat) : (s.withControllerTurns n).schedule = List.replicate n Turn.controller ++ s.schedule := rfl
@[simp] theorem withControllerTurns_draws (n : Nat) : (s.withControllerTurns n).draws = s.draws := rfl
@[simp] theorem withControllerTurns_returned (n : Nat) : (s.withControllerTurns n).returned = s.returned := rfl

/-! `raiseEvent`, one event at a time -/
@[simp] theorem raise_noAcknowledge_sclO : (s.raiseEvent .noAcknowledge).sclO = s.sclO := rfl
@[simp] theorem raise_noAcknowledge_sdaO : (s.raiseEvent .noAcknowledge).sdaO = s.sdaO := rfl
@[simp] theorem raise_noAcknowledge_pScl : (s.raiseEvent .noAcknowledge).pScl = s.pScl := rfl
@[simp] theorem raise_noAcknowledge_pSda : (s.raiseEvent .noAcknowledge).pSda = s.pSda := rfl
@[simp] theorem raise_noAcknowledge_ctrlSpeed : (s.raiseEvent .noAcknowledge).ctrlSpeed = s.ctrlSpeed := rfl
@[simp] theorem raise_noAcknowledge_busy : (s.raiseEvent .noAcknowledge).busy = s.busy := rfl
@[simp] theorem raise_noAcknowledge_nack : (s.raiseEvent .noAcknowledge).nack = true := rfl
@[simp] theorem raise_noAcknowledge_present : (s.raiseEvent .noAcknowledge).present = s.present := rfl
@[simp] theorem raise_noAcknowledge_errCmd : (s.raiseEvent .noAcknowledge).errCmd = s.errCmd := rfl
@[simp] theorem raise_noAcknowledge_errBusy : (s.raiseEvent .noAcknowledge).errBusy = s.errBusy := rfl
@[simp] theorem raise_noAcknowledge_errStall : (s.raiseEvent .noAcknowledge).errStall = s.errStall := rfl
@[simp] theorem raise_noAcknowledge_txdata : (s.raiseEvent .noAcknowledge).txdata = s.txdata := rfl
@[simp] theorem raise_noAcknowledge_rxdata : (s.raiseEvent .noAcknowledge).rxdata = s.rxdata := rfl
@[simp] theorem raise_noAcknowledge_addr : (s.raiseEvent .noAcknowledge).addr = s.addr := rfl
@[simp] theorem raise_noAcknowledge_cmd : (s.raiseEvent .noAcknowledge).cmd = s.cmd := rfl
@[simp] theorem raise_noAcknowledge_upc : (s.raiseEvent .noAcknowledge).upc = s.upc := rfl
@[simp] theorem raise_noAcknowledge_txl : (s.raiseEvent .noAcknowledge).txl = s.txl := rfl
@[simp] theorem raise_noAcknowledge_sh : (s.raiseEvent .noAcknowledge).sh = s.sh := rfl
@[simp] theorem raise_noAcknowledge_stallCnt : (s.raiseEvent .noAcknowledge).stallCnt = s.stallCnt := rfl
@[simp] theorem raise_noAcknowledge_hostProg : (s.raiseEvent .noAcknowledge).hostProg = s.hostProg := rfl
@[simp] theorem raise_noAcknowledge_schedule : (s.raiseEvent .noAcknowledge).schedule = s.schedule := rfl
@[simp] theorem raise_noAcknowledge_draws : (s.raiseEvent .noAcknowledge).draws = s.draws := rfl
@[simp] theorem raise_noAcknowledge_returned : (s.raiseEvent .noAcknowledge).returned = s.returned := rfl
@[simp] theorem raise_reservedCommand_sclO : (s.raiseEvent .reservedCommand).sclO = s.sclO := rfl
@[simp] theorem raise_reservedCommand_sdaO : (s.raiseEvent .reservedCommand).sdaO = s.sdaO := rfl
@[simp] theorem raise_reservedCommand_pScl : (s.raiseEvent .reservedCommand).pScl = s.pScl := rfl
@[simp] theorem raise_reservedCommand_pSda : (s.raiseEvent .reservedCommand).pSda = s.pSda := rfl
@[simp] theorem raise_reservedCommand_ctrlSpeed : (s.raiseEvent .reservedCommand).ctrlSpeed = s.ctrlSpeed := rfl
@[simp] theorem raise_reservedCommand_busy : (s.raiseEvent .reservedCommand).busy = s.busy := rfl
@[simp] theorem raise_reservedCommand_nack : (s.raiseEvent .reservedCommand).nack = s.nack := rfl
@[simp] theorem raise_reservedCommand_present : (s.raiseEvent .reservedCommand).present = s.present := rfl
@[simp] theorem raise_reservedCommand_errCmd : (s.raiseEvent .reservedCommand).errCmd = true := rfl
@[simp] theorem raise_reservedCommand_errBusy : (s.raiseEvent .reservedCommand).errBusy = s.errBusy := rfl
@[simp] theorem raise_reservedCommand_errStall : (s.raiseEvent .reservedCommand).errStall = s.errStall := rfl
@[simp] theorem raise_reservedCommand_txdata : (s.raiseEvent .reservedCommand).txdata = s.txdata := rfl
@[simp] theorem raise_reservedCommand_rxdata : (s.raiseEvent .reservedCommand).rxdata = s.rxdata := rfl
@[simp] theorem raise_reservedCommand_addr : (s.raiseEvent .reservedCommand).addr = s.addr := rfl
@[simp] theorem raise_reservedCommand_cmd : (s.raiseEvent .reservedCommand).cmd = s.cmd := rfl
@[simp] theorem raise_reservedCommand_upc : (s.raiseEvent .reservedCommand).upc = s.upc := rfl
@[simp] theorem raise_reservedCommand_txl : (s.raiseEvent .reservedCommand).txl = s.txl := rfl
@[simp] theorem raise_reservedCommand_sh : (s.raiseEvent .reservedCommand).sh = s.sh := rfl
@[simp] theorem raise_reservedCommand_stallCnt : (s.raiseEvent .reservedCommand).stallCnt = s.stallCnt := rfl
@[simp] theorem raise_reservedCommand_hostProg : (s.raiseEvent .reservedCommand).hostProg = s.hostProg := rfl
@[simp] theorem raise_reservedCommand_schedule : (s.raiseEvent .reservedCommand).schedule = s.schedule := rfl
@[simp] theorem raise_reservedCommand_draws : (s.raiseEvent .reservedCommand).draws = s.draws := rfl
@[simp] theorem raise_reservedCommand_returned : (s.raiseEvent .reservedCommand).returned = s.returned := rfl
@[simp] theorem raise_busyOverrun_sclO : (s.raiseEvent .busyOverrun).sclO = s.sclO := rfl
@[simp] theorem raise_busyOverrun_sdaO : (s.raiseEvent .busyOverrun).sdaO = s.sdaO := rfl
@[simp] theorem raise_busyOverrun_pScl : (s.raiseEvent .busyOverrun).pScl = s.pScl := rfl
@[simp] theorem raise_busyOverrun_pSda : (s.raiseEvent .busyOverrun).pSda = s.pSda := rfl
@[simp] theorem raise_busyOverrun_ctrlSpeed : (s.raiseEvent .busyOverrun).ctrlSpeed = s.ctrlSpeed := rfl
@[simp] theorem raise_busyOverrun_busy : (s.raiseEvent .busyOverrun).busy = s.busy := rfl
@[simp] theorem raise_busyOverrun_nack : (s.raiseEvent .busyOverrun).nack = s.nack := rfl
@[simp] theorem raise_busyOverrun_present : (s.raiseEvent .busyOverrun).present = s.present := rfl
@[simp] theorem raise_busyOverrun_errCmd : (s.raiseEvent .busyOverrun).errCmd = s.errCmd := rfl
@[simp] theorem raise_busyOverrun_errBusy : (s.raiseEvent .busyOverrun).errBusy = true := rfl
@[simp] theorem raise_busyOverrun_errStall : (s.raiseEvent .busyOverrun).errStall = s.errStall := rfl
@[simp] theorem raise_busyOverrun_txdata : (s.raiseEvent .busyOverrun).txdata = s.txdata := rfl
@[simp] theorem raise_busyOverrun_rxdata : (s.raiseEvent .busyOverrun).rxdata = s.rxdata := rfl
@[simp] theorem raise_busyOverrun_addr : (s.raiseEvent .busyOverrun).addr = s.addr := rfl
@[simp] theorem raise_busyOverrun_cmd : (s.raiseEvent .busyOverrun).cmd = s.cmd := rfl
@[simp] theorem raise_busyOverrun_upc : (s.raiseEvent .busyOverrun).upc = s.upc := rfl
@[simp] theorem raise_busyOverrun_txl : (s.raiseEvent .busyOverrun).txl = s.txl := rfl
@[simp] theorem raise_busyOverrun_sh : (s.raiseEvent .busyOverrun).sh = s.sh := rfl
@[simp] theorem raise_busyOverrun_stallCnt : (s.raiseEvent .busyOverrun).stallCnt = s.stallCnt := rfl
@[simp] theorem raise_busyOverrun_hostProg : (s.raiseEvent .busyOverrun).hostProg = s.hostProg := rfl
@[simp] theorem raise_busyOverrun_schedule : (s.raiseEvent .busyOverrun).schedule = s.schedule := rfl
@[simp] theorem raise_busyOverrun_draws : (s.raiseEvent .busyOverrun).draws = s.draws := rfl
@[simp] theorem raise_busyOverrun_returned : (s.raiseEvent .busyOverrun).returned = s.returned := rfl
@[simp] theorem raise_stretchTimeout_sclO : (s.raiseEvent .stretchTimeout).sclO = s.sclO := rfl
@[simp] theorem raise_stretchTimeout_sdaO : (s.raiseEvent .stretchTimeout).sdaO = s.sdaO := rfl
@[simp] theorem raise_stretchTimeout_pScl : (s.raiseEvent .stretchTimeout).pScl = s.pScl := rfl
@[simp] theorem raise_stretchTimeout_pSda : (s.raiseEvent .stretchTimeout).pSda = s.pSda := rfl
@[simp] theorem raise_stretchTimeout_ctrlSpeed : (s.raiseEvent .stretchTimeout).ctrlSpeed = s.ctrlSpeed := rfl
@[simp] theorem raise_stretchTimeout_busy : (s.raiseEvent .stretchTimeout).busy = false := rfl
@[simp] theorem raise_stretchTimeout_nack : (s.raiseEvent .stretchTimeout).nack = s.nack := rfl
@[simp] theorem raise_stretchTimeout_present : (s.raiseEvent .stretchTimeout).present = s.present := rfl
@[simp] theorem raise_stretchTimeout_errCmd : (s.raiseEvent .stretchTimeout).errCmd = s.errCmd := rfl
@[simp] theorem raise_stretchTimeout_errBusy : (s.raiseEvent .stretchTimeout).errBusy = s.errBusy := rfl
@[simp] theorem raise_stretchTimeout_errStall : (s.raiseEvent .stretchTimeout).errStall = true := rfl
@[simp] theorem raise_stretchTimeout_txdata : (s.raiseEvent .stretchTimeout).txdata = s.txdata := rfl
@[simp] theorem raise_stretchTimeout_rxdata : (s.raiseEvent .stretchTimeout).rxdata = s.rxdata := rfl
@[simp] theorem raise_stretchTimeout_addr : (s.raiseEvent .stretchTimeout).addr = s.addr := rfl
@[simp] theorem raise_stretchTimeout_cmd : (s.raiseEvent .stretchTimeout).cmd = none := rfl
@[simp] theorem raise_stretchTimeout_upc : (s.raiseEvent .stretchTimeout).upc = 0 := rfl
@[simp] theorem raise_stretchTimeout_txl : (s.raiseEvent .stretchTimeout).txl = s.txl := rfl
@[simp] theorem raise_stretchTimeout_sh : (s.raiseEvent .stretchTimeout).sh = s.sh := rfl
@[simp] theorem raise_stretchTimeout_stallCnt : (s.raiseEvent .stretchTimeout).stallCnt = 0 := rfl
@[simp] theorem raise_stretchTimeout_hostProg : (s.raiseEvent .stretchTimeout).hostProg = s.hostProg := rfl
@[simp] theorem raise_stretchTimeout_schedule : (s.raiseEvent .stretchTimeout).schedule = s.schedule := rfl
@[simp] theorem raise_stretchTimeout_draws : (s.raiseEvent .stretchTimeout).draws = s.draws := rfl
@[simp] theorem raise_stretchTimeout_returned : (s.raiseEvent .stretchTimeout).returned = s.returned := rfl

/-! `resetBlock` (R38, R111, R113) -/
@[simp] theorem resetBlock_sclO : s.resetBlock.sclO = true := rfl
@[simp] theorem resetBlock_sdaO : s.resetBlock.sdaO = true := rfl
@[simp] theorem resetBlock_pScl : s.resetBlock.pScl = s.pScl := rfl
@[simp] theorem resetBlock_pSda : s.resetBlock.pSda = s.pSda := rfl
@[simp] theorem resetBlock_ctrlSpeed : s.resetBlock.ctrlSpeed = .standard := rfl
@[simp] theorem resetBlock_busy : s.resetBlock.busy = false := rfl
@[simp] theorem resetBlock_nack : s.resetBlock.nack = false := rfl
@[simp] theorem resetBlock_present : s.resetBlock.present = false := rfl
@[simp] theorem resetBlock_errCmd : s.resetBlock.errCmd = false := rfl
@[simp] theorem resetBlock_errBusy : s.resetBlock.errBusy = false := rfl
@[simp] theorem resetBlock_errStall : s.resetBlock.errStall = false := rfl
@[simp] theorem resetBlock_txdata : s.resetBlock.txdata = 0x00#8 := rfl
@[simp] theorem resetBlock_rxdata : s.resetBlock.rxdata = 0x00#8 := rfl
@[simp] theorem resetBlock_addr : s.resetBlock.addr = 0x00#7 := rfl
@[simp] theorem resetBlock_cmd : s.resetBlock.cmd = none := rfl
@[simp] theorem resetBlock_upc : s.resetBlock.upc = 0 := rfl
@[simp] theorem resetBlock_txl : s.resetBlock.txl = 0x00#8 := rfl
@[simp] theorem resetBlock_sh : s.resetBlock.sh = 0x00#8 := rfl
@[simp] theorem resetBlock_stallCnt : s.resetBlock.stallCnt = 0 := rfl
@[simp] theorem resetBlock_hostProg : s.resetBlock.hostProg = s.hostProg := rfl
@[simp] theorem resetBlock_schedule : s.resetBlock.schedule = s.schedule := rfl
@[simp] theorem resetBlock_draws : s.resetBlock.draws = s.draws := rfl
@[simp] theorem resetBlock_returned : s.resetBlock.returned = s.returned := rfl

/-! `atTurn`, which changes the schedule and the draw counter alone, and `atHostOp`, which changes the host program too -/
@[simp] theorem atTurn_sclO : s.atTurn.sclO = s.sclO := by unfold State.atTurn State.nextTurn; split <;> rfl
@[simp] theorem atTurn_sdaO : s.atTurn.sdaO = s.sdaO := by unfold State.atTurn State.nextTurn; split <;> rfl
@[simp] theorem atTurn_pScl : s.atTurn.pScl = s.pScl := by unfold State.atTurn State.nextTurn; split <;> rfl
@[simp] theorem atTurn_pSda : s.atTurn.pSda = s.pSda := by unfold State.atTurn State.nextTurn; split <;> rfl
@[simp] theorem atTurn_ctrlSpeed : s.atTurn.ctrlSpeed = s.ctrlSpeed := by unfold State.atTurn State.nextTurn; split <;> rfl
@[simp] theorem atTurn_busy : s.atTurn.busy = s.busy := by unfold State.atTurn State.nextTurn; split <;> rfl
@[simp] theorem atTurn_nack : s.atTurn.nack = s.nack := by unfold State.atTurn State.nextTurn; split <;> rfl
@[simp] theorem atTurn_present : s.atTurn.present = s.present := by unfold State.atTurn State.nextTurn; split <;> rfl
@[simp] theorem atTurn_errCmd : s.atTurn.errCmd = s.errCmd := by unfold State.atTurn State.nextTurn; split <;> rfl
@[simp] theorem atTurn_errBusy : s.atTurn.errBusy = s.errBusy := by unfold State.atTurn State.nextTurn; split <;> rfl
@[simp] theorem atTurn_errStall : s.atTurn.errStall = s.errStall := by unfold State.atTurn State.nextTurn; split <;> rfl
@[simp] theorem atTurn_txdata : s.atTurn.txdata = s.txdata := by unfold State.atTurn State.nextTurn; split <;> rfl
@[simp] theorem atTurn_rxdata : s.atTurn.rxdata = s.rxdata := by unfold State.atTurn State.nextTurn; split <;> rfl
@[simp] theorem atTurn_addr : s.atTurn.addr = s.addr := by unfold State.atTurn State.nextTurn; split <;> rfl
@[simp] theorem atTurn_cmd : s.atTurn.cmd = s.cmd := by unfold State.atTurn State.nextTurn; split <;> rfl
@[simp] theorem atTurn_upc : s.atTurn.upc = s.upc := by unfold State.atTurn State.nextTurn; split <;> rfl
@[simp] theorem atTurn_txl : s.atTurn.txl = s.txl := by unfold State.atTurn State.nextTurn; split <;> rfl
@[simp] theorem atTurn_sh : s.atTurn.sh = s.sh := by unfold State.atTurn State.nextTurn; split <;> rfl
@[simp] theorem atTurn_stallCnt : s.atTurn.stallCnt = s.stallCnt := by unfold State.atTurn State.nextTurn; split <;> rfl
@[simp] theorem atTurn_hostProg : s.atTurn.hostProg = s.hostProg := by unfold State.atTurn State.nextTurn; split <;> rfl
@[simp] theorem atTurn_returned : s.atTurn.returned = s.returned := by unfold State.atTurn State.nextTurn; split <;> rfl
@[simp] theorem atHostOp_sclO : s.atHostOp.sclO = s.sclO := atTurn_sclO s
@[simp] theorem atHostOp_sdaO : s.atHostOp.sdaO = s.sdaO := atTurn_sdaO s
@[simp] theorem atHostOp_pScl : s.atHostOp.pScl = s.pScl := atTurn_pScl s
@[simp] theorem atHostOp_pSda : s.atHostOp.pSda = s.pSda := atTurn_pSda s
@[simp] theorem atHostOp_ctrlSpeed : s.atHostOp.ctrlSpeed = s.ctrlSpeed := atTurn_ctrlSpeed s
@[simp] theorem atHostOp_busy : s.atHostOp.busy = s.busy := atTurn_busy s
@[simp] theorem atHostOp_nack : s.atHostOp.nack = s.nack := atTurn_nack s
@[simp] theorem atHostOp_present : s.atHostOp.present = s.present := atTurn_present s
@[simp] theorem atHostOp_errCmd : s.atHostOp.errCmd = s.errCmd := atTurn_errCmd s
@[simp] theorem atHostOp_errBusy : s.atHostOp.errBusy = s.errBusy := atTurn_errBusy s
@[simp] theorem atHostOp_errStall : s.atHostOp.errStall = s.errStall := atTurn_errStall s
@[simp] theorem atHostOp_txdata : s.atHostOp.txdata = s.txdata := atTurn_txdata s
@[simp] theorem atHostOp_rxdata : s.atHostOp.rxdata = s.rxdata := atTurn_rxdata s
@[simp] theorem atHostOp_addr : s.atHostOp.addr = s.addr := atTurn_addr s
@[simp] theorem atHostOp_cmd : s.atHostOp.cmd = s.cmd := atTurn_cmd s
@[simp] theorem atHostOp_upc : s.atHostOp.upc = s.upc := atTurn_upc s
@[simp] theorem atHostOp_txl : s.atHostOp.txl = s.txl := atTurn_txl s
@[simp] theorem atHostOp_sh : s.atHostOp.sh = s.sh := atTurn_sh s
@[simp] theorem atHostOp_stallCnt : s.atHostOp.stallCnt = s.stallCnt := atTurn_stallCnt s
@[simp] theorem atHostOp_hostProg : s.atHostOp.hostProg = s.hostProg.tail := rfl
@[simp] theorem atHostOp_schedule : s.atHostOp.schedule = s.atTurn.schedule := rfl
@[simp] theorem atHostOp_draws : s.atHostOp.draws = s.atTurn.draws := rfl
@[simp] theorem atHostOp_returned : s.atHostOp.returned = s.returned := atTurn_returned s

/-! The line levels and the micro-op, which read those fields -/
@[simp] theorem atTurn_scl : s.atTurn.scl = s.scl := by simp [State.scl]
@[simp] theorem atTurn_sda : s.atTurn.sda = s.sda := by simp [State.sda]
@[simp] theorem atHostOp_scl : s.atHostOp.scl = s.scl := by simp [State.scl]
@[simp] theorem atHostOp_sda : s.atHostOp.sda = s.sda := by simp [State.sda]
@[simp] theorem atTurn_microOp? : s.atTurn.microOp? = s.microOp? := by simp [State.microOp?]
@[simp] theorem atHostOp_microOp? : s.atHostOp.microOp? = s.microOp? := by simp [State.microOp?]
@[simp] theorem atTurn_statusByte : s.atTurn.statusByte = s.statusByte := by unfold State.atTurn State.nextTurn; split <;> rfl
@[simp] theorem atHostOp_statusByte : s.atHostOp.statusByte = s.statusByte := atTurn_statusByte s
@[simp] theorem atHostOp_regRead (off : Offset) : s.atHostOp.regRead off = s.regRead off := by simp [State.regRead]

end Sys2Proof.Machine
end

