-- ==== Sys2Proof/Laws/Ops.lean ====
section
/-! SUPPORT. One lemma per shared operation that says everything it can do; provers cite these instead of unfolding. -/

namespace Sys2Proof.Machine

/-! ### Issuing a command -/

theorem issue_busy {s : State} (h : s.busy = true) (c : Instr) (o : Option Byte) :
    s.issue c o = s.raiseEvent .busyOverrun := by simp [State.issue, h]

theorem issue_idle {s : State} (h : s.busy = false) (c : Instr) (o : Option Byte) :
    s.issue c o = { s with cmd := some c, busy := true, upc := 0, sh := 0x00#8, stallCnt := 0, txl := o.getD s.txl } := by
  simp [State.issue, h]

/-- The operand a command latches (R62). -/
def latched (c : Instr) (s : State) : Option Byte :=
  match c with
  | .send => some s.sendOperand
  | .probe => some s.probeOperand
  | .start | .stop | .read | .waitack | .ack | .nackc => none

/-- exec is the issue of the command with its operand, for all eight. -/
theorem exec_eq_issue (c : Instr) (s : State) : exec c s = .next (s.issue c (latched c s)) := by cases c <;> rfl

/-! ### Decoding -/

theorem decode_error_of_reserved {v : Byte} (h : v = 0x00#8 ∨ 0x09#8 ≤ v) : decode v = .error .reserved := by
  revert v; decide

/-! ### What a step does, by whose turn it is -/

/-- A Controller turn that executes a micro-op (R73). -/
theorem stepWith_aboutTo {limit : Option Nat} {s : State} {op : MicroOp} (h : s.aboutTo op) :
    stepWith limit s = .next (runMicroOp limit op s.atTurn) := by
  simp only [State.aboutTo, Bool.and_eq_true, beq_iff_eq] at h
  obtain ⟨⟨h1, h2⟩, h3⟩ := h
  have e : s.nextTurn.2 = s.atTurn := rfl
  simp [stepWith, takeTurn, controllerStep, h1, h2, h3, e]

/-- A Host turn that performs a host step. -/
theorem stepWith_hostNext {limit : Option Nat} {s : State} {op : HostOp} (h : s.hostNext op) :
    stepWith limit s = hostOp op s.atHostOp := by
  simp only [State.hostNext, Bool.and_eq_true, beq_iff_eq] at h
  obtain ⟨h1, h2⟩ := h
  have e : s.nextTurn.2 = s.atTurn := rfl
  obtain ⟨rest, h3⟩ : ∃ rest, s.hostProg = op :: rest := by
    cases h4 : s.hostProg with
    | nil => simp [h4] at h2
    | cons a l => simp [h4] at h2; exact ⟨l, by rw [h2]⟩
  simp [stepWith, takeTurn, hostStep, h1, h3, e, State.atHostOp]

/-- A Peer turn (R17). -/
theorem stepWith_peer {limit : Option Nat} {s : State} {a b : Bit} (h : s.nextTurn.1 = .peer a b) :
    stepWith limit s = .next (s.atTurn.movePeer a b) := by
  have e : s.nextTurn.2 = s.atTurn := rfl
  simp [stepWith, takeTurn, h, e]

/-- A turn of an agent that has no step (R73, R127). -/
theorem stepWith_noStep {limit : Option Nat} {s : State}
    (h : (s.nextTurn.1 = .controller ∧ s.busy = false) ∨ (s.nextTurn.1 = .host ∧ s.hostProg = [])) :
    stepWith limit s = .next s.atTurn := by
  have e : s.nextTurn.2 = s.atTurn := rfl
  rcases h with ⟨h1, h2⟩ | ⟨h1, h2⟩ <;> simp [stepWith, takeTurn, controllerStep, hostStep, h1, h2, e]

/-- Everything a step can do when it answers a next state. -/
theorem stepWith_next {limit : Option Nat} {s t : State} (h : stepWith limit s = .next t) :
    (∃ op, s.aboutTo op = true ∧ t = runMicroOp limit op s.atTurn) ∨
    (∃ op, s.hostNext op = true ∧ hostOp op s.atHostOp = .next t) ∨
    (∃ a b, s.nextTurn.1 = .peer a b ∧ t = s.atTurn.movePeer a b) ∨
    (((s.nextTurn.1 = .controller ∧ s.busy = false) ∨ (s.nextTurn.1 = .host ∧ s.hostProg = [])) ∧ t = s.atTurn) := by
  have e : s.nextTurn.2 = s.atTurn := rfl
  cases h1 : s.nextTurn.1 with
  | peer a b =>
    rw [stepWith_peer h1] at h
    exact .inr (.inr (.inl ⟨a, b, rfl, by cases h; rfl⟩))
  | host =>
    cases h2 : s.hostProg with
    | nil =>
      rw [stepWith_noStep (.inr ⟨h1, h2⟩)] at h
      exact .inr (.inr (.inr ⟨.inr ⟨rfl, rfl⟩, by cases h; rfl⟩))
    | cons op rest =>
      have hn : s.hostNext op = true := by simp [State.hostNext, h1, h2]
      rw [stepWith_hostNext hn] at h
      exact .inr (.inl ⟨op, hn, h⟩)
  | controller =>
    cases h2 : s.busy with
    | false =>
      rw [stepWith_noStep (.inl ⟨h1, h2⟩)] at h
      exact .inr (.inr (.inr ⟨.inl ⟨rfl, rfl⟩, by cases h; rfl⟩))
    | true =>
      cases h3 : s.microOp? with
      | none => simp [stepWith, takeTurn, controllerStep, h1, h2, h3, e] at h
      | some op =>
        have ha : s.aboutTo op = true := by simp [State.aboutTo, h1, h2, h3]
        rw [stepWith_aboutTo ha] at h
        exact .inl ⟨op, ha, by cases h; rfl⟩

/-! ### Runs -/

theorem runWith_zero (limit : Option Nat) (s : State) : runWith limit 0 s = .next s := rfl

theorem runWith_succ {limit : Option Nat} {s t : State} (n : Nat) (h : stepWith limit s = .next t) :
    runWith limit (n + 1) s = runWith limit n t := by simp [runWith, h]

/-- A run that answers a next state takes its first step to some state and runs on from there. -/
theorem runWith_succ_next {limit : Option Nat} {n : Nat} {s u : State} (h : runWith limit (n + 1) s = .next u) :
    ∃ t, stepWith limit s = .next t ∧ runWith limit n t = .next u := by
  simp only [runWith] at h
  split at h
  · next t ht => exact ⟨t, ht, h⟩
  · cases h
  · cases h

theorem runWith_add {limit : Option Nat} {s t : State} (m n : Nat) (h : runWith limit m s = .next t) :
    runWith limit (m + n) s = runWith limit n t := by
  induction m generalizing s with
  | zero => cases h; simp
  | succ m ih =>
    obtain ⟨u, hu, hr⟩ := runWith_succ_next h
    rw [show m + 1 + n = (m + n) + 1 by omega, runWith_succ _ hu, ih hr]

theorem core_run_succ (M : Host.Core) (n : Nat) (s : M.State) :
    M.run (n + 1) s = match M.step s with
      | .next t => M.run n t
      | .fault r => .fault r
      | .refused r => .refused r := by cases h : M.step s <;> simp [Host.Core.run, h]

/-- `run` is the run of the host's machine. -/
theorem core_run_eq (n : Nat) (s : State) : Sys2Proof.core.run n s = run n s := by
  unfold run
  induction n generalizing s with
  | zero => rfl
  | succ n ih =>
    refine (core_run_succ Sys2Proof.core n s).trans ?_
    split
    · next t h => exact (ih t).trans (runWith_succ n (show stepWith _ s = _ from h)).symm
    · next r h => simp only [runWith, show stepWith Config.stretchLimit s = .fault r from h]; rfl
    · next r h => simp only [runWith, show stepWith Config.stretchLimit s = .refused r from h]; rfl

/-! ### What a micro-op can change -/

/-- Where WSCL leads: it advances, or holds counting one more low poll, or aborts (R10, R35, R76). -/
theorem microWscl_cases (limit : Option Nat) (s : State) :
    (s.scl = true ∧ microWscl limit s = { s.advance with stallCnt := 0 }) ∨
    (s.scl = false ∧ limit = none ∧ microWscl limit s = s.countLowPoll) ∨
    (s.scl = false ∧ ∃ n, limit = some n ∧ s.stallCnt + 1 < n ∧ microWscl limit s = s.countLowPoll) ∨
    (s.scl = false ∧ ∃ n, limit = some n ∧ n ≤ s.stallCnt + 1 ∧ microWscl limit s = s.raiseEvent .stretchTimeout) := by
  unfold microWscl
  cases hs : s.scl with
  | true => simp
  | false =>
    cases limit with
    | none => simp
    | some n =>
      by_cases hn : n ≤ s.stallCnt + 1
      · simp [hn]
      · simp [hn]; omega

/-- AKS writes the sample into NACK, and nothing else (R79). -/
theorem sampleAck_eq (s : State) : s.sampleAck = { s with nack := s.sda } := by
  unfold State.sampleAck
  split
  · next h => simp [State.raiseEvent, h]
  · next h => simp [h]

/-- What no micro-op changes: the Peer's outputs, the Host's registers and the latched operand, the two error flags the Host's
writes set, and the model's own fields. -/
theorem runMicroOp_frame (limit : Option Nat) (op : MicroOp) (s : State) :
    (runMicroOp limit op s).pScl = s.pScl ∧ (runMicroOp limit op s).pSda = s.pSda ∧
    (runMicroOp limit op s).ctrlSpeed = s.ctrlSpeed ∧ (runMicroOp limit op s).txdata = s.txdata ∧
    (runMicroOp limit op s).addr = s.addr ∧ (runMicroOp limit op s).txl = s.txl ∧
    (runMicroOp limit op s).errCmd = s.errCmd ∧ (runMicroOp limit op s).errBusy = s.errBusy ∧
    (runMicroOp limit op s).hostProg = s.hostProg ∧ (runMicroOp limit op s).schedule = s.schedule ∧
    (runMicroOp limit op s).draws = s.draws ∧ (runMicroOp limit op s).returned = s.returned := by
  cases op with
  | sda v => simp [runMicroOp, microSda]
  | sdab i => simp [runMicroOp, microSdab]
  | scl0 => simp [runMicroOp, microScl0]
  | scl1 => simp [runMicroOp, microScl1]
  | dly => simp [runMicroOp, microDly]
  | rxs => simp [runMicroOp, microRxs]
  | aks => simp only [runMicroOp, microAks, State.sampleAck]; split <;> simp
  | finish => simp only [runMicroOp, microEnd, State.commit]; split <;> simp
  | wscl =>
    simp only [runMicroOp]
    rcases microWscl_cases limit s with ⟨_, h⟩ | ⟨_, _, h⟩ | ⟨_, n, _, _, h⟩ | ⟨_, n, _, _, h⟩ <;> rw [h] <;> simp

/-! ### What a host step can change -/

/-- A host step that answers a next state is the reset; or issues a command, the block being idle; or leaves the lines, the results
and the whole sequencer as they were. -/
theorem hostOp_next {op : HostOp} {s t : State} (h : hostOp op s = .next t) :
    (op = .reset ∧ t = s.resetBlock) ∨
    (s.busy = false ∧ ∃ c, t = s.issue c (latched c s)) ∨
    (t.sclO = s.sclO ∧ t.sdaO = s.sdaO ∧ t.pScl = s.pScl ∧ t.pSda = s.pSda ∧ t.busy = s.busy ∧ t.cmd = s.cmd ∧ t.upc = s.upc ∧
      t.txl = s.txl ∧ t.sh = s.sh ∧ t.stallCnt = s.stallCnt ∧ t.nack = s.nack ∧ t.present = s.present ∧ t.rxdata = s.rxdata) := by
  have hw : ∀ off v, regWrite off v s = .next t →
      (s.busy = false ∧ ∃ c, t = s.issue c (latched c s)) ∨
      (t.sclO = s.sclO ∧ t.sdaO = s.sdaO ∧ t.pScl = s.pScl ∧ t.pSda = s.pSda ∧ t.busy = s.busy ∧ t.cmd = s.cmd ∧ t.upc = s.upc ∧
      t.txl = s.txl ∧ t.sh = s.sh ∧ t.stallCnt = s.stallCnt ∧ t.nack = s.nack ∧ t.present = s.present ∧ t.rxdata = s.rxdata) := by
    intro off v hr
    unfold regWrite at hr
    split at hr
    · cases hr; right; unfold State.writeCtrl; split <;> simp
    · unfold cmdWrite at hr
      split at hr
      · rename_i i _
        rw [exec_eq_issue] at hr
        cases hr
        cases hb : s.busy with
        | false => exact .inl ⟨rfl, i, rfl⟩
        | true => right; rw [issue_busy hb]; simp [hb]
      · cases hr; right; unfold State.reservedWrite; split <;> simp
    all_goals (cases hr; right; simp)
  cases op with
  | reset => left; cases h; exact ⟨rfl, rfl⟩
  | read off => right; right; cases h; simp
  | wait => right; right; cases h; unfold waitPoll; split <;> simp
  | write off v => exact .inr (hw off v h)
  | busRead a n =>
    right; right
    simp only [hostOp, busRead] at h
    split at h
    · cases h
    · split at h
      · cases h; simp
      · cases h
  | busWrite a d =>
    right
    simp only [hostOp, busWrite] at h
    split at h
    · cases h
    · split at h
      · exact hw _ _ h
      · cases h

end Sys2Proof.Machine
end

