-- ==== Sys2Proof/Laws/Machine.lean ====
section
/-! SUPPORT. Inversion lemmas of the Controller and the Host, what each micro-op does to each observable, facts about the
micro-programs, and runs of undisturbed Controller turns. -/

namespace Sys2Proof.Machine

/-! ### What `aboutTo` and `hostNext` say -/

theorem aboutTo_turn {s : State} {op : MicroOp} (h : s.aboutTo op) : s.nextTurn.1 = .controller := by
  simp only [State.aboutTo, Bool.and_eq_true, beq_iff_eq] at h; exact h.1.1

theorem aboutTo_busy {s : State} {op : MicroOp} (h : s.aboutTo op) : s.busy = true := by
  simp only [State.aboutTo, Bool.and_eq_true] at h; exact h.1.2

theorem aboutTo_microOp {s : State} {op : MicroOp} (h : s.aboutTo op) : s.microOp? = some op := by
  simp only [State.aboutTo, Bool.and_eq_true, beq_iff_eq] at h; exact h.2

theorem hostNext_turn {s : State} {op : HostOp} (h : s.hostNext op) : s.nextTurn.1 = .host := by
  simp only [State.hostNext, Bool.and_eq_true, beq_iff_eq] at h; exact h.1

theorem hostNext_prog {s : State} {op : HostOp} (h : s.hostNext op) : s.hostProg = op :: s.hostProg.tail := by
  simp only [State.hostNext, Bool.and_eq_true, beq_iff_eq] at h
  cases h4 : s.hostProg with
  | nil => simp [h4] at h
  | cons a l => simp [h4] at h; simp [h.2]

/-- withHostOp makes the host step the very next one. -/
theorem hostNext_withHostOp (op : HostOp) (s : State) : (s.withHostOp op).hostNext op = true := by
  simp [State.hostNext, State.withHostOp, State.nextTurn]

theorem atTurn_of_schedule {s : State} {x : Turn} {xs : List Turn} (h : s.schedule = x :: xs) :
    s.atTurn = { s with schedule := xs } := by simp [State.atTurn, State.nextTurn, h]

/-! ### Host writes -/

/-- A window write always answers a next state. -/
theorem regWrite_total (off : Offset) (v : Byte) (s : State) : ∃ t, regWrite off v s = .next t := by
  unfold regWrite
  split <;> try exact ⟨_, rfl⟩
  unfold cmdWrite
  split
  · exact ⟨_, exec_eq_issue _ _⟩
  · exact ⟨_, rfl⟩

theorem offset_of_decodeOffset {off : Offset} {r : Reg} (h : decodeOffset off = some r) : off = r.offset := by
  revert h; revert off; cases r <;> decide

/-- Where a window write leads, offset by offset (R43 to R47). -/
theorem regWrite_cases {off : Offset} {v : Byte} {s t : State} (h : regWrite off v s = .next t) :
    (off = 0x0#3 ∧ t = s.writeCtrl v) ∨ (off = 0x1#3 ∧ cmdWrite v s = .next t) ∨ (off = 0x2#3 ∧ t = s.clearErrors v) ∨
    (off = 0x3#3 ∧ t = { s with txdata := v }) ∨ (off = 0x5#3 ∧ t = { s with addr := addrOfByte v }) ∨ t = s := by
  unfold regWrite at h
  split at h <;> rename_i hd <;> try (have := offset_of_decodeOffset hd; subst this)
  · cases h; exact .inl ⟨rfl, rfl⟩
  · exact .inr (.inl ⟨rfl, h⟩)
  · cases h; exact .inr (.inr (.inl ⟨rfl, rfl⟩))
  · cases h; exact .inr (.inr (.inr (.inl ⟨rfl, rfl⟩)))
  · cases h; exact .inr (.inr (.inr (.inr (.inl ⟨rfl, rfl⟩))))
  · cases h; exact .inr (.inr (.inr (.inr (.inr rfl))))
  · cases h; exact .inr (.inr (.inr (.inr (.inr rfl))))

/-- The three branches of a CMD write (R47). -/
theorem cmdWrite_cases {v : Byte} {s t : State} (h : cmdWrite v s = .next t) :
    (s.busy = true ∧ t = s.raiseEvent .busyOverrun) ∨
    (s.busy = false ∧ ∃ c, decode v = .ok c ∧ t = s.issue c (latched c s)) ∨
    (s.busy = false ∧ t = s.raiseEvent .reservedCommand) := by
  unfold cmdWrite at h
  split at h
  · rename_i i hd
    rw [exec_eq_issue] at h
    cases h
    cases hb : s.busy with
    | true => exact .inl ⟨rfl, issue_busy hb _ _⟩
    | false => exact .inr (.inl ⟨rfl, i, hd, rfl⟩)
  · cases h
    unfold State.reservedWrite
    cases hb : s.busy <;> simp

theorem windowOffset_some {base a : Nat} {off : Offset} (h : windowOffset base a = some off) : a = base + off.toNat := by
  unfold windowOffset at h
  split at h
  · cases h; simp; omega
  · cases h

theorem windowOffset_inside (base : Nat) (off : Offset) : windowOffset base (base + off.toNat) = some off := by
  have := off.isLt
  simp [windowOffset, this]

/-- A wait poll touches the host program and the returned bytes alone. -/
theorem waitPoll_frame (s : State) : ∃ p r, waitPoll s = { s with hostProg := p, returned := r } := by
  unfold waitPoll
  split <;> exact ⟨_, _, rfl⟩

/-- What a host step that answers a next state is: a reset, a read, a wait poll, or a window write. -/
theorem hostOp_cases {op : HostOp} {s t : State} (h : hostOp op s = .next t) :
    (op = .reset ∧ t = s.resetBlock) ∨ (∃ v, t = s.deliver v) ∨ t = waitPoll s ∨
    (∃ off v, (op = .write off v ∨ op = .busWrite (Config.baseAddr + off.toNat) [v]) ∧ regWrite off v s = .next t) := by
  cases op with
  | reset => cases h; exact .inl ⟨rfl, rfl⟩
  | read off => cases h; exact .inr (.inl ⟨_, rfl⟩)
  | wait => cases h; exact .inr (.inr (.inl rfl))
  | write off v => exact .inr (.inr (.inr ⟨off, v, .inl rfl, h⟩))
  | busRead a n =>
    simp only [hostOp, busRead] at h
    split at h
    · cases h
    · split at h
      · cases h; exact .inr (.inl ⟨_, rfl⟩)
      · cases h
  | busWrite a d =>
    simp only [hostOp, busWrite] at h
    split at h
    · cases h
    · rename_i off hw
      split at h
      · rw [windowOffset_some hw]; exact .inr (.inr (.inr ⟨off, _, .inr rfl, h⟩))
      · cases h

theorem statusByte_busy (s : State) : s.statusByte.getLsbD 0 = s.busy := by
  unfold State.statusByte
  generalize s.sda = a, s.scl = b, s.errStall = c, s.errBusy = d, s.errCmd = e, s.present = f, s.nack = g, s.busy = h
  revert a b c d e f g h
  decide

/-! ### Micro-ops, observable by observable -/

theorem microEnd_frame (s : State) :
    (microEnd s).sclO = s.sclO ∧ (microEnd s).sdaO = s.sdaO ∧ (microEnd s).nack = s.nack ∧
    (microEnd s).stallCnt = s.stallCnt ∧ (microEnd s).errStall = s.errStall := by
  unfold microEnd State.commit
  split <;> simp

theorem runMicroOp_sclO (limit : Option Nat) (op : MicroOp) (s : State) :
    (runMicroOp limit op s).sclO = (sclDrive op).getD s.sclO := by
  cases op with
  | wscl =>
    simp only [runMicroOp]
    rcases microWscl_cases limit s with ⟨_, h⟩ | ⟨_, _, h⟩ | ⟨_, n, _, _, h⟩ | ⟨_, n, _, _, h⟩ <;> rw [h] <;> simp [sclDrive]
  | finish => exact (microEnd_frame s).1
  | aks => simp [runMicroOp, microAks, sampleAck_eq, sclDrive]
  | _ => simp [runMicroOp, microSda, microSdab, microScl0, microScl1, microDly, microRxs, sclDrive]

theorem runMicroOp_sdaO (limit : Option Nat) (op : MicroOp) (s : State) :
    (runMicroOp limit op s).sdaO = (sdaDrive s.txl op).getD s.sdaO := by
  cases op with
  | wscl =>
    simp only [runMicroOp]
    rcases microWscl_cases limit s with ⟨_, h⟩ | ⟨_, _, h⟩ | ⟨_, n, _, _, h⟩ | ⟨_, n, _, _, h⟩ <;> rw [h] <;> simp [sdaDrive]
  | finish => exact (microEnd_frame s).2.1
  | aks => simp [runMicroOp, microAks, sampleAck_eq, sdaDrive]
  | _ => simp [runMicroOp, microSda, microSdab, microScl0, microScl1, microDly, microRxs, sdaDrive]

/-- The command a micro-op leaves running: the same, or none. -/
theorem runMicroOp_cmd (limit : Option Nat) (op : MicroOp) (s : State) :
    (runMicroOp limit op s).cmd = s.cmd ∨ (runMicroOp limit op s).cmd = none := by
  cases op with
  | wscl =>
    simp only [runMicroOp]
    rcases microWscl_cases limit s with ⟨_, h⟩ | ⟨_, _, h⟩ | ⟨_, n, _, _, h⟩ | ⟨_, n, _, _, h⟩ <;> rw [h] <;> simp
  | finish => exact .inr rfl
  | aks => simp [runMicroOp, microAks, sampleAck_eq]
  | _ => simp [runMicroOp, microSda, microSdab, microScl0, microScl1, microDly, microRxs]

/-! ### Micro-programs -/

theorem lastDrive_append (drive : MicroOp → Option Bit) (a b : List MicroOp) :
    lastDrive drive (a ++ b) = (lastDrive drive b).or (lastDrive drive a) := by
  induction a with
  | nil => simp [lastDrive]
  | cons x l ih => simp [lastDrive, ih, Option.or_assoc]

theorem program_last (c : Instr) : (program c)[(program c).length - 1]? = some .finish := by cases c <;> rfl

/-- A micro-op other than END is followed by another one. -/
theorem upc_succ_lt {c : Instr} {k : Nat} {op : MicroOp} (h : (program c)[k]? = some op) (hne : op ≠ .finish) :
    k + 1 < (program c).length := by
  have hk : k < (program c).length := by
    by_contra hh
    rw [List.getElem?_eq_none (by omega)] at h
    cases h
  by_contra hh
  have hk' : k = (program c).length - 1 := by omega
  subst hk'
  rw [program_last c] at h
  cases h
  exact hne rfl

/-- After a micro-op that advances, the executed part is longer by it. -/
theorem executed_succ {s t : State} {op : MicroOp} (ho : s.microOp? = some op) (hc : t.cmd = s.cmd) (hu : t.upc = s.upc + 1) :
    t.executed = s.executed ++ [op] := by
  unfold State.microOp? at ho
  unfold State.executed
  rw [hc, hu]
  cases h : s.cmd with
  | none => simp [h] at ho
  | some c => simp [h] at ho ⊢; rw [List.take_add_one, ho]; rfl

/-! ### The invariant -/

theorem config_limitLegal : LimitLegal Config.stretchLimit := by
  intro n hn
  simp [Config.stretchLimit] at hn
  obtain ⟨a, _, rfl⟩ := hn
  omega

/-- A state that has counted no low poll meets the stall part of the invariant. -/
theorem stallWf_of_zero {limit : Option Nat} {s : State} (hl : LimitLegal limit) (h : s.stallCnt = 0) : s.StallWf limit :=
  ⟨fun _ => h, fun n hn => by rw [h]; exact hl n hn⟩

/-! ### Undisturbed Controller turns -/

theorem atTurn_withControllerTurns (s : State) (k : Nat) :
    (s.withControllerTurns (k + 1)).atTurn = s.withControllerTurns k := by
  simp [State.atTurn, State.nextTurn, State.withControllerTurns, List.replicate_succ]

theorem aboutTo_withControllerTurns {s : State} {op : MicroOp} (k : Nat) (hb : s.busy = true) (ho : s.microOp? = some op) :
    (s.withControllerTurns (k + 1)).aboutTo op = true := by
  have : (s.withControllerTurns (k + 1)).microOp? = some op := ho
  simp [State.aboutTo, hb, this]
  simp [State.nextTurn, State.withControllerTurns, List.replicate_succ]

end Sys2Proof.Machine
end

