-- ==== Sys2Proof/Laws/PerInstr.lean ====
section
/-! SUPPORT. Facts about each command as written, one lemma per constructor. -/

namespace Sys2Proof.Laws.OpcodeLegal

/-- The opcode of a command is one of the eight values 0x01..0x08 that R47 accepts, and its micro-program starts with a line
driver, so that its first micro-op is no wait (R61, R66). -/
def Statement (i : Instr) : Prop :=
  1 ≤ (encode i).toNat ∧ (encode i).toNat ≤ 8 ∧
  ((Machine.program i).head?.map fun op => op == .scl1 || Machine.drivesSda op) = some true

theorem start : Statement .start := by unfold Statement; decide
theorem stop : Statement .stop := by unfold Statement; decide
theorem send : Statement .send := by unfold Statement; decide
theorem read : Statement .read := by unfold Statement; decide
theorem waitack : Statement .waitack := by unfold Statement; decide
theorem ack : Statement .ack := by unfold Statement; decide
theorem nackc : Statement .nackc := by unfold Statement; decide
theorem probe : Statement .probe := by unfold Statement; decide

end Sys2Proof.Laws.OpcodeLegal
end

