-- ==== Sys2Proof/Tests/Slice0.lean ====
section
/-! SUPPORT. Tests: expected values from 30_encoding.md and 95_test_vectors.md (V1 to V61), one step each; ill-formed terms that the
checks refuse; and for every obligation with hypotheses a state that meets them. -/

namespace Sys2Proof.Tests

open Sys2Proof.Machine

/-! ### Helpers -/

/-- Command `c` runs, micro-op `k` is next, and the next turn is the Controller's; everything else as after reset. -/
def running (c : Instr) (k : Nat) : State :=
  { State.reset with cmd := some c, busy := true, upc := k, schedule := [.controller] }

/-- The Host performs `op` next. -/
def hosting (op : HostOp) : State := State.reset.withHostOp op

/-- A next state with a property. -/
def nextIs (o : Answer) (p : State → Bool) : Bool :=
  match o with
  | .next t => p t
  | .fault _ | .refused _ => false

theorem exists_of_nextIs {o : Answer} {p : State → Bool} (h : nextIs o p = true) : ∃ t, o = .next t ∧ p t = true := by
  cases o with
  | next t => exact ⟨t, rfl, h⟩
  | fault _ => cases h
  | refused _ => cases h

theorem inv_of {s : State} (h : s.SequencerWf ∧ s.LinesFollowProgram) (hz : s.stallCnt = 0) : s.Inv Config.stretchLimit :=
  ⟨h.1, h.2, stallWf_of_zero config_limitLegal hz⟩

/-! ### Decoding: the opcodes of R60, bit by bit, and reserved values of R61 (V13 to V16) -/

theorem test_decode_start : decode 0b00000001#8 = .ok .start := rfl
theorem test_decode_stop : decode 0b00000010#8 = .ok .stop := rfl
theorem test_decode_send : decode 0b00000011#8 = .ok .send := rfl
theorem test_decode_read : decode 0b00000100#8 = .ok .read := rfl
theorem test_decode_waitack : decode 0b00000101#8 = .ok .waitack := rfl
theorem test_decode_ack : decode 0b00000110#8 = .ok .ack := rfl
theorem test_decode_nackc : decode 0b00000111#8 = .ok .nackc := rfl
theorem test_decode_probe : decode 0b00001000#8 = .ok .probe := rfl
theorem test_decode_reserved :
    decode 0b00000000#8 = .error .reserved ∧ decode 0b00001001#8 = .error .reserved ∧
    decode 0b10000001#8 = .error .reserved ∧ decode 0b11111111#8 = .error .reserved := ⟨rfl, rfl, rfl, rfl⟩
theorem test_decodeTableWord :
    decodeTableWord 8 0x08 = some .probe ∧ decodeTableWord 8 0x00 = none ∧ decodeTableWord 8 0x101 = some .start := by decide
/-- R41. -/
theorem test_decodeOffset :
    decodeOffset 0b000#3 = some .ctrl ∧ decodeOffset 0b101#3 = some .addr ∧ decodeOffset 0b110#3 = none ∧
    decodeOffset 0b111#3 = none := by decide

/-! ### Well-formedness: one ill-formed term for each check -/

theorem test_wf_raise_not_polled : MicroOp.programWellFormed [.scl1, .dly, .finish] = false := by decide
theorem test_wf_end_missing : MicroOp.programWellFormed [.sda true, .scl0] = false := by decide
theorem test_wf_end_inside : MicroOp.programWellFormed [.finish, .scl0, .finish] = false := by decide
theorem test_wf_program_ok : MicroOp.programWellFormed [.scl1, .wscl, .finish] = true := by decide
theorem test_wf_read_width : HostOp.wellFormed 16 (.busRead 18 2) = false := by decide
theorem test_wf_write_width : HostOp.wellFormed 16 (.busWrite 18 [0x00#8, 0x01#8]) = false := by decide
theorem test_wf_below_window : HostOp.wellFormed 16 (.busRead 15 1) = false := by decide
theorem test_wf_above_window : HostOp.wellFormed 16 (.busWrite 24 [0x00#8]) = false := by decide
theorem test_wf_access_ok :
    HostOp.wellFormed 16 (.busRead 16 1) = true ∧ HostOp.wellFormed 16 (.busWrite 23 [0x00#8]) = true := by decide

/-! ### Address bytes: the worked examples of R63 -/

theorem test_addrByte :
    addrByte 0x50#7 .write = 0xA0#8 ∧ addrByte 0x50#7 .read = 0xA1#8 ∧ addrByte 0x7F#7 .read = 0xFF#8 ∧
    addrByte 0x00#7 .write = 0x00#8 := by decide

/-! ### The register window -/

/-- V1. -/
theorem test_v1 : nextIs (step (hosting (.read 0x2#3))) (·.returned == [0xC0#8]) = true := by decide
/-- V2. -/
theorem test_v2 : nextIs (step (hosting (.read 0x1#3))) (·.returned == [0x00#8]) = true := by decide
/-- V3. -/
theorem test_v3 : nextIs (step (hosting (.write 0x0#3 0xFF#8))) (fun t => t.regRead 0x0#3 == 0x01#8) = true := by decide
/-- V4. -/
theorem test_v4 : nextIs (step ((running .start 2).withHostOp (.write 0x0#3 0x01#8)))
    (fun t => t.ctrlSpeed == .standard && t.errBusy) = true := by decide
/-- V5. -/
theorem test_v5 : nextIs (step (hosting (.write 0x5#3 0xFF#8))) (fun t => t.regRead 0x5#3 == 0x7F#8) = true := by decide
/-- V6. -/
theorem test_v6 : nextIs (step (({ State.reset with rxdata := 0x7A#8 } : State).withHostOp (.write 0x4#3 0x00#8)))
    (fun t => t.regRead 0x4#3 == 0x7A#8) = true := by decide
/-- V7. -/
theorem test_v7 : nextIs (step (hosting (.write 0x6#3 0x55#8))) (fun t => t.regRead 0x6#3 == 0x00#8) = true := by decide
/-- V8. -/
theorem test_v8 : nextIs (step (({ State.reset with errCmd := true, errBusy := true, errStall := true } : State).withHostOp
    (.write 0x2#3 0x08#8))) (fun t => !t.errCmd && t.errBusy && t.errStall) = true := by decide
/-- V9. -/
theorem test_v9 : nextIs (step (({ State.reset with errCmd := true, errBusy := true, errStall := true } : State).withHostOp
    (.write 0x2#3 0x30#8))) (fun t => t.errCmd && !t.errBusy && !t.errStall) = true := by decide
/-- V10. -/
theorem test_v10 : nextIs (step (({ running .send 0 with errCmd := true, errStall := true } : State).withHostOp
    (.write 0x2#3 0xFF#8))) (fun t => t.busy && !t.errCmd && !t.errBusy && !t.errStall) = true := by decide
/-- V11. -/
theorem test_v11 : nextIs (step (({ running .send 0 with txl := 0xA5#8 } : State).withHostOp (.write 0x3#3 0x00#8)))
    (fun t => t.txl == 0xA5#8 && t.txdata == 0x00#8) = true := by decide
/-- V13 and V14. -/
theorem test_v14 : nextIs (step (hosting (.write 0x1#3 0x09#8))) (fun t => t.errCmd && !t.busy && !t.errBusy) = true := by decide
/-- V17. -/
theorem test_v17 : nextIs (step ((running .start 2).withHostOp (.write 0x1#3 0x02#8)))
    (fun t => t.errBusy && t.cmd == some .start && t.upc == 2) = true := by decide
/-- V18. -/
theorem test_v18 : nextIs (step ((running .start 2).withHostOp (.write 0x1#3 0x09#8)))
    (fun t => t.errBusy && !t.errCmd) = true := by decide
/-- The refusals of R10: a two-byte access, and an address above the window. -/
theorem test_refusals :
    busRead 16 18 2 State.reset = .refused .accessWidth ∧ busWrite 16 24 [0x01#8] State.reset = .refused .outsideWindow :=
  ⟨rfl, rfl⟩
/-- V60: outputs (1,0), the SDA rise is a stop condition. -/
theorem test_v60 : nextIs (step (({ running .send 3 with sdaO := false } : State).withHostOp .reset))
    (fun t => t.sclO && t.sdaO && !t.busy && t.upc == 0 && stopCondition { running .send 3 with sdaO := false } t) = true := by
  decide
/-- V61. -/
theorem test_v61 : nextIs (step (({ State.reset with errCmd := true, errStall := true, rxdata := 0x7A#8 } : State).withHostOp .reset))
    (fun t => t.statusByte == 0xC0#8 && t.rxdata == 0x00#8) = true := by decide

/-! ### Issuing the commands (V12), through withFetchWord, and one micro-op of each -/

/-- The CMD write of an opcode starts `c` at micro-op 0. -/
def issues (w : Nat) (c : Instr) : Bool :=
  nextIs (step (State.reset.withFetchWord 8 w)) fun t => t.cmd == some c && t.busy && t.upc == 0

theorem test_issue_start : issues 0x01 .start = true := by decide
theorem test_issue_stop : issues 0x02 .stop = true := by decide
/-- The worked example of R47. -/
theorem test_issue_send : nextIs (step (({ State.reset with txdata := 0xA5#8 } : State).withFetchWord 8 0x03))
    (fun t => t.busy && t.cmd == some .send && t.txl == 0xA5#8 && t.upc == 0) = true := by decide
theorem test_issue_read : issues 0x04 .read = true := by decide
theorem test_issue_waitack : issues 0x05 .waitack = true := by decide
theorem test_issue_ack : issues 0x06 .ack = true := by decide
theorem test_issue_nackc : issues 0x07 .nackc = true := by decide
/-- V55, V57, V58: the latched address byte. -/
theorem test_issue_probe : nextIs (step (({ State.reset with addr := 0x7F#7 } : State).withFetchWord 8 0x08))
    (fun t => t.cmd == some .probe && t.txl == 0xFE#8) = true := by decide

/-- V29: START's micro-op 4 gives the pair (1,0) and a start condition. -/
theorem test_v29 : nextIs (step (running .start 4))
    (fun t => t.scl && !t.sda && startCondition (running .start 4) t) = true := by decide
/-- V32: STOP's micro-op 4 gives the pair (1,1) and a stop condition. -/
theorem test_v32 : nextIs (step { running .stop 4 with sdaO := false })
    (fun t => t.scl && t.sda && stopCondition { running .stop 4 with sdaO := false } t) = true := by decide
/-- V34: STOP from idle makes a start condition at micro-op 0. -/
theorem test_v34 : nextIs (step (running .stop 0)) (fun t => startCondition (running .stop 0) t) = true := by decide
/-- V36: the first bit of 0xA5 is 1, its second 0. -/
theorem test_v36 :
    nextIs (step { running .send 0 with txl := 0xA5#8, sclO := false, sdaO := false }) (·.sdaO) = true ∧
    nextIs (step { running .send 6 with txl := 0xA5#8, sclO := false }) (fun t => !t.sdaO) = true := by decide
/-- V39: SEND of 0x00 from idle makes a start condition at micro-op 0. -/
theorem test_v39 : nextIs (step (running .send 0)) (fun t => startCondition (running .send 0) t) = true := by decide
/-- V24: the last sample of a READ. -/
theorem test_v24 : nextIs (step { running .read 3 with sh := 0x3D#8, pSda := false }) (·.sh == 0x7A#8) = true := by decide
/-- V42: READ's END copies the accumulator. -/
theorem test_v42 : nextIs (step { running .read 48 with sh := 0x7A#8, sclO := false })
    (fun t => t.rxdata == 0x7A#8 && !t.busy && t.cmd == none && t.upc == 0) = true := by decide
/-- V25 and V26. -/
theorem test_v26 :
    nextIs (step { running .read 3 with sh := 0xFF#8 }) (·.sh == 0xFF#8) = true ∧
    nextIs (step { running .read 3 with sdaO := false }) (·.sh == 0x00#8) = true := by decide
/-- V27. -/
theorem test_v27 : nextIs (step { running .waitack 5 with nack := true, pSda := false }) (fun t => !t.nack) = true := by decide
/-- V28. -/
theorem test_v28 : nextIs (step (running .waitack 5)) (·.nack) = true := by decide
/-- V53: ACK from idle makes a start condition at micro-op 0. -/
theorem test_v53 : nextIs (step (running .ack 0)) (fun t => startCondition (running .ack 0) t) = true := by decide
/-- V52: NACK releases SDA and leaves the flag NACK. -/
theorem test_v52 : nextIs (step { running .nackc 0 with sclO := false, sdaO := false, nack := true })
    (fun t => t.sdaO && t.nack) = true := by decide
/-- V55 and V56: PROBE's END computes PRESENT from NACK; V56's STATUS is 0xC4. -/
theorem test_v56 :
    nextIs (step { running .probe 69 with nack := true, present := true }) (fun t => !t.present) = true ∧
    nextIs (step (running .probe 69)) (fun t => t.statusByte == 0xC4#8) = true := by decide

/-! ### The clock-stretching detector -/

/-- V19. -/
theorem test_v19 : nextIs (step { running .start 2 with stallCnt := 1 }) (fun t => t.upc == 3 && t.stallCnt == 0) = true := by decide
/-- V20, one poll: a hold; R35 counts it. -/
theorem test_v20 : nextIs (stepWith none { running .start 2 with pScl := false, stallCnt := 4 })
    (fun t => t.upc == 2 && t.busy && t.stallCnt == 5) = true := by decide
/-- V21, polls 2 and 3. -/
theorem test_v21 :
    nextIs (stepWith (some 3) { running .start 2 with pScl := false, stallCnt := 1 }) (fun t => t.upc == 2 && t.stallCnt == 2) = true ∧
    nextIs (stepWith (some 3) { running .start 2 with pScl := false, stallCnt := 2 })
      (fun t => t.errStall && !t.busy && t.sclO && t.sdaO) = true := by decide
/-- V22, poll 3. -/
theorem test_v22 : nextIs (stepWith (some 3) { running .start 2 with stallCnt := 2 })
    (fun t => t.upc == 3 && t.stallCnt == 0 && !t.errStall) = true := by decide
/-- V23. -/
theorem test_v23 : nextIs (stepWith (some 1) { running .start 2 with pScl := false }) (fun t => t.errStall && t.cmd == none) = true := by
  decide
/-- V59: PROBE's abort at micro-op 66 leaves PRESENT and the outputs (1,0). -/
theorem test_v59 : nextIs (stepWith (some 1) { running .probe 66 with pScl := false, sdaO := false, present := true, nack := true })
    (fun t => t.errStall && t.present && t.nack && t.sclO && !t.sdaO && !t.busy) = true := by decide

/-! ### Witnesses: for each obligation with hypotheses, states and operands that meet them, at boundary values -/

theorem witness_OpcodeMap : (0x09#8 : Byte) ≤ 0x09#8 ∧ (0x09#8 : Byte) ≤ 0xFF#8 ∧ ¬ (0x09#8 : Byte) ≤ 0x08#8 := by decide

theorem witness_DecodeInvertsEncode : decode 0x01#8 = .ok .start ∧ (0x08#8 : Byte) = encode .probe := by decide

theorem witness_StepTakesNextTurn : (running .start 0).schedule = [.controller] ∧ State.reset.schedule = [] := ⟨rfl, rfl⟩

theorem witness_StepRunsDecodedCommand :
    decode 0x08#8 = .ok .probe ∧ Instr.wellFormed .probe = true ∧
    (hosting (.write 0x1#3 0x08#8)).hostNext (.write 0x1#3 0x08#8) = true ∧
    (hosting (.busWrite (Config.baseAddr + 1) [0x08#8])).hostNext (.busWrite (Config.baseAddr + 1) [0x08#8]) = true :=
  ⟨rfl, rfl, hostNext_withHostOp _ _, hostNext_withHostOp _ _⟩

theorem witness_ControllerStepRunsMicroOp :
    ({ State.reset with schedule := [.controller] } : State).nextTurn.1 = .controller ∧ State.reset.busy = false ∧
    (running .probe 69).nextTurn.1 = .controller ∧ (running .probe 69).busy = true ∧
    (running .probe 69).cmd = some .probe ∧ (program .probe)[69]? = some .finish := by decide

theorem witness_LineDrivers :
    (running .start 0).aboutTo (.sda true) = true ∧ (running .start 4).aboutTo (.sda false) = true ∧
    (running .send 0).aboutTo (.sdab 7) = true ∧ (running .send 42).aboutTo (.sdab 0) = true ∧
    (running .start 6).aboutTo .scl0 = true ∧ (running .start 1).aboutTo .scl1 = true := by decide

theorem witness_DelayAndSamplers :
    (running .start 3).aboutTo .dly = true ∧ (running .read 3).aboutTo .rxs = true ∧
    (running .read 45).aboutTo .rxs = true ∧ (running .waitack 5).aboutTo .aks = true ∧
    (running .probe 61).aboutTo .aks = true := by decide

/-- Clauses: SCL high; low with no limit; low below the limit 3 (counts 0 and 1); low at it (count 2), and at the limit 1. -/
theorem witness_ClockStretchDetector :
    (running .start 2).aboutTo .wscl = true ∧ ((running .start 2).sclO && (running .start 2).pScl) = true ∧
    ({ running .start 2 with pScl := false } : State).aboutTo .wscl = true ∧
    ({ running .start 2 with pScl := false, stallCnt := 1 } : State).aboutTo .wscl = true ∧
    ({ running .start 2 with pScl := false, stallCnt := 2 } : State).aboutTo .wscl = true ∧
    1 + 1 < 3 ∧ 3 ≤ 2 + 1 ∧ 1 ≤ 0 + 1 := by decide

theorem witness_EndCommits :
    (running .read 48).aboutTo .finish = true ∧ (running .probe 69).aboutTo .finish = true ∧
    (running .start 7).aboutTo .finish = true ∧ (running .stop 5).aboutTo .finish = true ∧
    nextIs (step (running .start 7)) (fun t => t.cmd == none) = true := by decide

theorem witness_MicroOpAdvancesByOne :
    (running .start 0).aboutTo (.sda true) = true ∧ nextIs (stepWith none (running .start 0)) (·.upc == 1) = true ∧
    nextIs (stepWith (some 1) { running .start 2 with pScl := false }) (fun t => !t.busy) = true := by decide

theorem witness_PeerMoves :
    ({ State.reset with schedule := [.peer false true] } : State).nextTurn.1 = .peer false true ∧
    nextIs (step { State.reset with schedule := [.peer false true] }) (fun t => t.pScl != State.reset.pScl) = true := by decide

theorem witness_IdleRetainsState :
    ({ State.reset with schedule := [.host] } : State).Finished ∧
    ({ State.reset with schedule := [.host] } : State).nextTurn.1 = .host ∧
    ({ State.reset with schedule := [.controller] } : State).nextTurn.1 = .controller := by decide

theorem witness_ResetStep : ((running .send 3).withHostOp .reset).hostNext .reset = true := by decide

theorem witness_RegisterReads : ∀ off : Offset, (hosting (.read off)).hostNext (.read off) = true := by decide

theorem witness_CtrlWrite :
    (hosting (.write 0x0#3 0xFF#8)).hostNext (.write 0x0#3 0xFF#8) = true ∧ (hosting (.write 0x0#3 0xFF#8)).busy = false ∧
    ((running .start 2).withHostOp (.write 0x0#3 0x01#8)).hostNext (.write 0x0#3 0x01#8) = true ∧
    ((running .start 2).withHostOp (.write 0x0#3 0x01#8)).busy = true := by decide

theorem witness_StatusWriteClearsErrors : (hosting (.write 0x2#3 0x38#8)).hostNext (.write 0x2#3 0x38#8) = true := by decide

theorem witness_OperandRegisterWrites :
    (hosting (.write 0x3#3 0xFF#8)).hostNext (.write 0x3#3 0xFF#8) = true ∧
    ((running .probe 0).withHostOp (.write 0x5#3 0xFF#8)).hostNext (.write 0x5#3 0xFF#8) = true := by decide

theorem witness_IgnoredWrites :
    (hosting (.write 0x4#3 0xFF#8)).hostNext (.write 0x4#3 0xFF#8) = true ∧
    (hosting (.write 0x6#3 0xFF#8)).hostNext (.write 0x6#3 0xFF#8) = true ∧
    (hosting (.write 0x7#3 0xFF#8)).hostNext (.write 0x7#3 0xFF#8) = true ∧
    (hosting (.read 0x6#3)).hostNext (.read 0x6#3) = true ∧ (hosting (.read 0x7#3)).hostNext (.read 0x7#3) = true := by decide

theorem witness_ReservedCommand :
    (hosting (.write 0x1#3 0x00#8)).busy = false ∧
    (hosting (.write 0x1#3 0x00#8)).hostNext (.write 0x1#3 0x00#8) = true ∧
    (hosting (.write 0x1#3 0x09#8)).hostNext (.write 0x1#3 0x09#8) = true ∧ (0x09#8 : Byte) ≤ 0x09#8 ∧
    (hosting (.write 0x1#3 0xFF#8)).hostNext (.write 0x1#3 0xFF#8) = true ∧ (0x09#8 : Byte) ≤ 0xFF#8 := by decide

theorem witness_BusyOverrun : ∀ off : Offset,
    ((running .start 2).withHostOp (.write off 0x09#8)).busy = true ∧
    ((running .start 2).withHostOp (.write off 0x09#8)).hostNext (.write off 0x09#8) = true := by decide

theorem witness_RegisterWriteFrame :
    (hosting (.write 0x1#3 0x03#8)).hostNext (.write 0x1#3 0x03#8) = true ∧
    ((running .start 2).withHostOp (.write 0x7#3 0x00#8)).hostNext (.write 0x7#3 0x00#8) = true ∧
    ((running .start 2).withHostOp (.write 0x7#3 0x00#8)).busy = true := by decide

/-- Offsets 0 and 7, widths 0, 1 and 2, and the first address above the window. -/
theorem witness_BusAccesses :
    Config.baseAddr + 0 = Config.baseAddr + (0x0#3 : Offset).toNat ∧ Config.baseAddr + 7 = Config.baseAddr + (0x7#3 : Offset).toNat ∧
    (hosting (.busRead (Config.baseAddr + 0) 1)).hostNext (.busRead (Config.baseAddr + 0) 1) = true ∧
    (hosting (.busWrite (Config.baseAddr + 7) [0xFF#8])).hostNext (.busWrite (Config.baseAddr + 7) [0xFF#8]) = true ∧
    (hosting (.busRead (Config.baseAddr + 7) 2)).hostNext (.busRead (Config.baseAddr + 7) 2) = true ∧
    (hosting (.busWrite (Config.baseAddr + 0) [])).hostNext (.busWrite (Config.baseAddr + 0) []) = true ∧
    (hosting (.busRead (Config.baseAddr + 8) 1)).hostNext (.busRead (Config.baseAddr + 8) 1) = true ∧
    (hosting (.busWrite (Config.baseAddr + 8) [0xFF#8])).hostNext (.busWrite (Config.baseAddr + 8) [0xFF#8]) = true :=
  ⟨rfl, rfl, hostNext_withHostOp _ _, hostNext_withHostOp _ _, hostNext_withHostOp _ _, hostNext_withHostOp _ _,
    hostNext_withHostOp _ _, hostNext_withHostOp _ _⟩

theorem witness_WaitLoop :
    (hosting .wait).hostNext .wait = true ∧ (hosting .wait).busy = false ∧
    ((running .start 2).withHostOp .wait).hostNext .wait = true ∧ ((running .start 2).withHostOp .wait).busy = true := by decide

theorem witness_CommandIssue : (running .start 2).busy = true ∧ State.reset.busy = false := by decide

/-- One state for all eight completion statements and for `CommandTakesItsMicroOpCount`: an idle block, the clock released, SDA
pulled by the Peer, a bus left with scl_o = 0. -/
theorem witness_completes :
    ({ State.reset with sclO := false, pSda := false, txdata := 0xA5#8, addr := 0x50#7 } : State).busy = false ∧
    ({ State.reset with sclO := false, pSda := false, txdata := 0xA5#8, addr := 0x50#7 } : State).pScl = true := by decide

theorem witness_StartCompletes : State.reset.busy = false ∧ State.reset.pScl = true := by decide
theorem witness_StopCompletes : State.reset.busy = false ∧ State.reset.pScl = true := by decide
theorem witness_SendCompletes : State.reset.busy = false ∧ State.reset.pScl = true := by decide
theorem witness_ReadCompletes : State.reset.busy = false ∧ State.reset.pScl = true := by decide
theorem witness_WaitackCompletes : State.reset.busy = false ∧ State.reset.pScl = true := by decide
theorem witness_AckCompletes : State.reset.busy = false ∧ State.reset.pScl = true := by decide
theorem witness_NackCompletes : State.reset.busy = false ∧ State.reset.pScl = true := by decide
theorem witness_ProbeCompletes : State.reset.busy = false ∧ State.reset.pScl = true := by decide
theorem witness_CommandTakesItsMicroOpCount :
    State.reset.busy = false ∧ State.reset.pScl = true ∧ 0 < (program .stop).length ∧ 69 < (program .probe).length := by decide

theorem witness_StartThenStopLeavesBusIdle :
    State.reset.busy = false ∧ State.reset.pScl = true ∧ State.reset.pSda = true := by decide

/-- All three agents move under a Peer that keeps SCL low, and the Host waits. -/
def hangingState : State :=
  { running .start 2 with pScl := false, hostProg := [.wait], schedule := [.controller, .peer false true, .host, .controller] }

/-- Interleaved: three steps with one poll, at the limit 2 (its second poll is next) and at none; undisturbed: N = 1 (k = 0) and
N = 3 (k = 2). -/
theorem witness_NthLowPollAborts :
    (hangingState.busy = true ∧ hangingState.microOp? = some .wscl ∧ hangingState.stallCnt = 0 ∧ .reset ∉ hangingState.hostProg ∧
      (∀ v ∈ pollLevels (some 2) 3 hangingState, v = false) ∧ (∀ v ∈ pollLevels none 3 hangingState, v = false) ∧
      (pollLevels (some 2) 3 hangingState).length < 2 ∧ 2 = (pollLevels (some 2) 3 hangingState).length + 1) ∧
    (∃ t, runWith (some 2) 3 hangingState = .next t ∧ (t.aboutTo .wscl && !t.scl) = true) ∧
    (∃ t, runWith none 3 hangingState = .next t ∧ true = true) ∧
    1 ≤ 1 ∧ 0 < 1 ∧ 2 < 3 ∧ ({ running .start 2 with pScl := false } : State).SequencerWf ∧
    ({ running .start 2 with pScl := false } : State).LinesFollowProgram ∧ ({ running .start 2 with pScl := false } : State).busy = true ∧
    ({ running .start 2 with pScl := false } : State).microOp? = some .wscl ∧
    ({ running .start 2 with pScl := false } : State).scl = false ∧
    ({ running .start 2 with pScl := false } : State).stallCnt = 0 :=
  ⟨by decide, exists_of_nextIs (o := runWith (some 2) 3 hangingState) (p := fun t => t.aboutTo .wscl && !t.scl) (by decide),
    exists_of_nextIs (o := runWith none 3 hangingState) (p := fun _ => true) (by decide), by decide⟩

theorem witness_StalledClockHangs :
    hangingState.busy = true ∧ hangingState.microOp? = some .wscl ∧ hangingState.pScl = false ∧
    4 ≤ hangingState.schedule.length ∧ (∀ sda, .peer true sda ∉ hangingState.schedule) ∧ .reset ∉ hangingState.hostProg ∧
    hangingState.hostProg = [.wait] ∧ ∃ t, runWith none 4 hangingState = .next t ∧ true = true :=
  ⟨rfl, rfl, rfl, by decide, by decide, by decide, rfl,
    exists_of_nextIs (o := runWith none 4 hangingState) (p := fun _ => true) (by decide)⟩

theorem witness_InvariantAtReset : LimitLegal none ∧ LimitLegal (some 1) ∧ LimitLegal Config.stretchLimit :=
  ⟨fun _ h => (by cases h), fun _ h => (by cases h; exact Nat.le_refl 1), config_limitLegal⟩

theorem witness_StepKeepsInvariant :
    LimitLegal (some 1) ∧ ({ running .start 2 with pScl := false } : State).Inv (some 1) ∧
    (∃ t, stepWith (some 1) { running .start 2 with pScl := false } = .next t) ∧
    (running .probe 69).Inv Config.stretchLimit ∧ ∃ t, step (running .probe 69) = .next t := by
  refine ⟨fun _ h => (by cases h; exact Nat.le_refl 1), ⟨by decide, by decide, ?_⟩, ⟨_, rfl⟩, inv_of (by decide) rfl, ⟨_, rfl⟩⟩
  exact stallWf_of_zero (fun _ h => (by cases h; exact Nat.le_refl 1)) rfl

/-- Both cases: a micro-op, and a two-byte access. -/
theorem witness_StepsOnlyRefuseIllFormedAccesses :
    (running .start 0).SequencerWf ∧ (hosting (.busRead Config.baseAddr 2)).SequencerWf ∧
    (hosting (.busRead Config.baseAddr 2)).hostNext (.busRead Config.baseAddr 2) = true ∧
    HostOp.wellFormed Config.baseAddr (.busRead Config.baseAddr 2) = false := by
  refine ⟨by decide, ⟨rfl, fun _ h => (by cases h), fun _ => rfl⟩, hostNext_withHostOp _ _, ?_⟩
  simp [HostOp.wellFormed]

/-- A READ from its first micro-op to its END, the Peer releasing both lines. -/
def readState : State := { running .read 0 with schedule := List.replicate 49 .controller }

/-- Each command at its END; and two steps of a running READ. -/
theorem witness_LinesAtEnd :
    (readState.SequencerWf ∧ readState.cmd = some .read ∧ keepsRunning .read 2 readState = true ∧
      ∃ t, run 2 readState = .next t ∧ t.upc == 2) ∧
    (({ running .start 7 with sclO := false, sdaO := false } : State).Inv Config.stretchLimit ∧
      ({ running .start 7 with sclO := false, sdaO := false } : State).aboutTo .finish = true) ∧
    ((running .stop 5).Inv Config.stretchLimit ∧ (running .stop 5).aboutTo .finish = true) ∧
    (({ running .send 49 with sclO := false } : State).Inv Config.stretchLimit ∧
      ({ running .send 49 with sclO := false } : State).aboutTo .finish = true) ∧
    (({ running .read 48 with sclO := false, sdaO := false } : State).Inv Config.stretchLimit ∧
      ({ running .read 48 with sclO := false, sdaO := false } : State).aboutTo .finish = true) ∧
    (({ running .waitack 8 with sclO := false } : State).Inv Config.stretchLimit ∧
      ({ running .waitack 8 with sclO := false } : State).aboutTo .finish = true) ∧
    (({ running .ack 7 with sclO := false, sdaO := false } : State).Inv Config.stretchLimit ∧
      ({ running .ack 7 with sclO := false, sdaO := false } : State).aboutTo .finish = true) ∧
    (({ running .nackc 7 with sclO := false } : State).Inv Config.stretchLimit ∧
      ({ running .nackc 7 with sclO := false } : State).aboutTo .finish = true) ∧
    ((running .probe 69).Inv Config.stretchLimit ∧ (running .probe 69).aboutTo .finish = true) :=
  ⟨⟨by decide, rfl, by decide, exists_of_nextIs (o := run 2 readState) (p := fun t => t.upc == 2) (by decide)⟩,
    ⟨inv_of (by decide) rfl, by decide⟩, ⟨inv_of (by decide) rfl, by decide⟩, ⟨inv_of (by decide) rfl, by decide⟩,
    ⟨inv_of (by decide) rfl, by decide⟩, ⟨inv_of (by decide) rfl, by decide⟩, ⟨inv_of (by decide) rfl, by decide⟩,
    ⟨inv_of (by decide) rfl, by decide⟩, ⟨inv_of (by decide) rfl, by decide⟩⟩

theorem witness_PollsSeeThePeer :
    (running .start 2).Inv Config.stretchLimit ∧ (running .start 2).aboutTo .wscl = true :=
  ⟨inv_of (by decide) rfl, by decide⟩

/-- SEND at k = 0, r = 3 and at k = 7, r = 5; PROBE likewise. -/
theorem witness_SendWireLevels :
    (({ running .send 3 with txl := 0xA5#8 } : State).Inv Config.stretchLimit ∧ 3 = 6 * 0 + 3) ∧
    (({ running .send 47 with txl := 0xA5#8 } : State).Inv Config.stretchLimit ∧ 47 = 6 * 7 + 5) ∧
    (({ running .probe 10 with txl := 0xA0#8 } : State).Inv Config.stretchLimit ∧ 10 = 7 + 6 * 0 + 3) ∧
    (({ running .probe 54 with txl := 0xA0#8, sdaO := false } : State).Inv Config.stretchLimit ∧ 54 = 7 + 6 * 7 + 5) :=
  ⟨⟨inv_of (by decide) rfl, rfl⟩, ⟨inv_of (by decide) rfl, rfl⟩, ⟨inv_of (by decide) rfl, rfl⟩, ⟨inv_of (by decide) rfl, rfl⟩⟩

/-- Each clause at its bounds: the samples of READ, WAITACK and PROBE; ACK, NACK and WAITACK from upc 1 or 3 to their END; READ at
k = 0, r = 1 and at k = 7, r = 5; PROBE at upc 59 and 64. -/
theorem witness_NinthClockAndSampleLevels :
    ((running .read 3).Inv Config.stretchLimit ∧ (running .read 3).aboutTo .rxs = true) ∧
    ((running .waitack 5).Inv Config.stretchLimit ∧ (running .waitack 5).aboutTo .aks = true) ∧
    ((running .probe 61).Inv Config.stretchLimit ∧ (running .probe 61).aboutTo .aks = true) ∧
    (({ running .ack 1 with sdaO := false } : State).Inv Config.stretchLimit ∧
      ({ running .ack 3 with sdaO := false } : State).Inv Config.stretchLimit ∧
      ({ running .ack 7 with sclO := false, sdaO := false } : State).Inv Config.stretchLimit) ∧
    ((running .nackc 1).Inv Config.stretchLimit ∧ (running .nackc 3).Inv Config.stretchLimit ∧
      ({ running .nackc 7 with sclO := false } : State).Inv Config.stretchLimit) ∧
    ((running .waitack 1).Inv Config.stretchLimit ∧ (running .waitack 3).Inv Config.stretchLimit ∧
      ({ running .waitack 8 with sclO := false } : State).Inv Config.stretchLimit) ∧
    ((running .read 1).Inv Config.stretchLimit ∧ 1 = 6 * 0 + 1 ∧
      ({ running .read 47 with sclO := false } : State).Inv Config.stretchLimit ∧ 47 = 6 * 7 + 5) ∧
    ((running .probe 59).Inv Config.stretchLimit ∧ ({ running .probe 64 with sclO := false } : State).Inv Config.stretchLimit) :=
  ⟨⟨inv_of (by decide) rfl, by decide⟩, ⟨inv_of (by decide) rfl, by decide⟩, ⟨inv_of (by decide) rfl, by decide⟩,
    ⟨inv_of (by decide) rfl, inv_of (by decide) rfl, inv_of (by decide) rfl⟩,
    ⟨inv_of (by decide) rfl, inv_of (by decide) rfl, inv_of (by decide) rfl⟩,
    ⟨inv_of (by decide) rfl, inv_of (by decide) rfl, inv_of (by decide) rfl⟩,
    ⟨inv_of (by decide) rfl, rfl, inv_of (by decide) rfl, rfl⟩, ⟨inv_of (by decide) rfl, inv_of (by decide) rfl⟩⟩

/-- SEND's first micro-op entered with the clock low, and a clock fall. -/
theorem witness_SendMakesNoCondition :
    ({ running .send 0 with sclO := false, txl := 0xA5#8 } : State).Inv Config.stretchLimit ∧
    ({ running .send 0 with sclO := false, txl := 0xA5#8 } : State).nextTurn.1 = .controller ∧
    (∃ t, step { running .send 0 with sclO := false, txl := 0xA5#8 } = .next t) ∧
    ({ running .send 5 with txl := 0xA5#8 } : State).Inv Config.stretchLimit ∧
    ∃ t, step { running .send 5 with txl := 0xA5#8 } = .next t :=
  ⟨inv_of (by decide) rfl, rfl, ⟨_, rfl⟩, inv_of (by decide) rfl, ⟨_, rfl⟩⟩

theorem witness_ConditionsOnTheWire :
    (running .start 4).Inv Config.stretchLimit ∧ (running .probe 4).Inv Config.stretchLimit ∧
    ({ running .stop 4 with sdaO := false } : State).Inv Config.stretchLimit ∧
    ({ running .probe 68 with sdaO := false } : State).Inv Config.stretchLimit ∧
    (running .start 4).pScl = true ∧ (running .start 4).pSda = true ∧ (running .start 4).nextTurn.1 = .controller :=
  ⟨inv_of (by decide) rfl, inv_of (by decide) rfl, inv_of (by decide) rfl, inv_of (by decide) rfl, rfl, rfl, rfl⟩

theorem witness_ReadAssemblesByte :
    readState.SequencerWf ∧ readState.cmd = some .read ∧ readState.upc = 0 ∧ readState.sh = 0x00#8 ∧
    keepsRunning .read 48 readState = true ∧ ∃ t, run 48 readState = .next t ∧ t.aboutTo .finish = true :=
  ⟨by decide, rfl, rfl, rfl, by decide +kernel,
    exists_of_nextIs (o := run 48 readState) (p := fun t => t.aboutTo .finish) (by decide +kernel)⟩

theorem witness_ReadAfterDriveLowReadsZero :
    ({ running .read 3 with sdaO := false } : State).SequencerWf ∧
    (∃ t, step { running .read 3 with sdaO := false } = .next t) ∧
    ({ running .read 48 with sdaO := false } : State).SequencerWf ∧
    ∃ t, step { running .read 48 with sdaO := false } = .next t :=
  ⟨by decide, ⟨_, rfl⟩, by decide, ⟨_, rfl⟩⟩

theorem witness_SerializeDeserializeRoundTrip :
    State.reset.busy = false ∧ State.reset.pScl = true ∧ State.reset.pSda = true := by decide

/-- A step that changes scl_o, one that changes sda_o, a reset that changes both, and an issue. -/
theorem witness_LineWriters :
    nextIs (step (running .start 6)) (fun t => t.sclO != (running .start 6).sclO) = true ∧
    nextIs (step (running .start 4)) (fun t => t.sdaO != (running .start 4).sdaO) = true ∧
    nextIs (step (({ State.reset with sclO := false, sdaO := false } : State).withHostOp .reset)) (fun t => t.sclO && t.sdaO) = true ∧
    ∃ u, exec .start (running .start 6) = .next u := ⟨by decide, by decide, by decide, ⟨_, rfl⟩⟩

theorem witness_ResultWriters :
    nextIs (step (running .waitack 5)) (fun t => t.nack != (running .waitack 5).nack) = true ∧
    nextIs (step (running .probe 69)) (fun t => t.present != (running .probe 69).present) = true ∧
    nextIs (step { running .read 48 with sh := 0x7A#8 }) (fun t => t.rxdata != (running .read 48).rxdata) = true := by decide

theorem witness_ErrorFlagsSticky :
    nextIs (step (({ State.reset with errCmd := true, errBusy := true, errStall := true } : State).withHostOp
      (.write 0x2#3 0x38#8))) (fun t => !t.errCmd && !t.errBusy && !t.errStall) = true ∧ State.reset.busy = false := by decide

theorem witness_HostRegisterWriters :
    nextIs (step (hosting (.write 0x0#3 0x01#8))) (fun t => t.ctrlSpeed != State.reset.ctrlSpeed) = true ∧
    nextIs (step (hosting (.write 0x3#3 0x01#8))) (fun t => t.txdata != State.reset.txdata) = true ∧
    nextIs (step (hosting (.write 0x5#3 0x01#8))) (fun t => t.addr != State.reset.addr) = true := by decide

/-- The three branches, at 0x00, 0x09, 0xFF and at the first and last opcode; and a step that starts a command. -/
theorem witness_CmdWrite :
    (∀ v : Byte, v = 0x00#8 ∨ v = 0x01#8 ∨ v = 0x08#8 ∨ v = 0x09#8 ∨ v = 0xFF#8 →
      (hosting (.write 0x1#3 v)).hostNext (.write 0x1#3 v) = true ∧ (hosting (.write 0x1#3 v)).busy = false ∧
      ((running .start 2).withHostOp (.write 0x1#3 v)).hostNext (.write 0x1#3 v) = true ∧
      ((running .start 2).withHostOp (.write 0x1#3 v)).busy = true) ∧
    decode 0x01#8 = .ok .start ∧ decode 0x08#8 = .ok .probe ∧
    nextIs (step (hosting (.write 0x1#3 0x08#8))) (fun t => t.cmd == some .probe) = true ∧
    (hosting (.write 0x1#3 0x08#8)).cmd ≠ some .probe :=
  ⟨fun _ _ => ⟨hostNext_withHostOp _ _, rfl, hostNext_withHostOp _ _, rfl⟩, rfl, rfl, by decide, by decide⟩

/-- A SEND under a Controller turn and a Peer turn. -/
theorem witness_RunningCommandIgnoresOperandRegisters :
    2 ≤ ({ running .send 0 with schedule := [.controller, .peer true false] } : State).schedule.length ∧
    .host ∉ ({ running .send 0 with schedule := [.controller, .peer true false] } : State).schedule ∧
    ∃ t, run 2 { running .send 0 with schedule := [.controller, .peer true false] } = .next t := by
  refine ⟨by decide, by decide, ?_⟩
  obtain ⟨t, ht, -⟩ := exists_of_nextIs (o := run 2 { running .send 0 with schedule := [.controller, .peer true false] })
    (p := fun _ => true) (by decide)
  exact ⟨t, ht⟩

/-- A WAITACK across its AKS. -/
theorem witness_CommandsIgnoreNack :
    2 ≤ ({ running .waitack 4 with schedule := [.controller, .controller] } : State).schedule.length ∧
    .host ∉ ({ running .waitack 4 with schedule := [.controller, .controller] } : State).schedule ∧
    ({ running .waitack 4 with schedule := [.controller, .controller] } : State).cmd ≠ some .probe ∧
    ∃ t, run 2 { running .waitack 4 with schedule := [.controller, .controller] } = .next t := by
  refine ⟨by decide, by decide, by decide, ?_⟩
  obtain ⟨t, ht, -⟩ := exists_of_nextIs (o := run 2 { running .waitack 4 with schedule := [.controller, .controller] })
    (p := fun _ => true) (by decide)
  exact ⟨t, ht⟩

end Sys2Proof.Tests
end

section
/-! Proofs of the statements of 00_scope.md: the address byte (R13), whose turn a step takes (R6, R54), what stops a step (R10). -/

namespace Sys2Proof.Machine

/-! ### The address byte -/

/-- {a[6:0], dir} as the shift and OR of R13, for either direction. -/
theorem addrByte_eq_shiftLeft_or (a : Addr7) (d : Direction) :
    addrByte a d = a.setWidth 8 <<< 1 ||| (BitVec.ofBool (directionBit d)).setWidth 8 := by
  ext i hi
  cases i with
  | zero => simp [addrByte, BitVec.getElem_concat]
  | succ j => simp [addrByte, BitVec.getLsbD_eq_getElem (show j < 7 by omega)]

/-- Settles O4: `addrByte_eq_shiftLeft_or` at the two direction bits. -/
theorem addressByte : Obligations.AddressByte := by
  unfold Obligations.AddressByte
  intro a
  constructor
  · simpa [directionBit] using addrByte_eq_shiftLeft_or a .write
  · exact addrByte_eq_shiftLeft_or a .read

/-! ### Whose turn a step takes -/

theorem nextTurn_of_schedule_cons {s : State} {t : Turn} {ts : List Turn} (h : s.schedule = t :: ts) :
    s.nextTurn = (t, { s with schedule := ts }) := by
  simp [State.nextTurn, h]

theorem nextTurn_of_schedule_nil {s : State} (h : s.schedule = []) :
    s.nextTurn = (Config.freeTurn s.draws, { s with draws := s.draws + 1 }) := by
  simp [State.nextTurn, h]

/-- Settles O7: a step takes `State.nextTurn`, which is read off the schedule in both cases. -/
theorem stepTakesNextTurn : Obligations.StepTakesNextTurn := by
  unfold Obligations.StepTakesNextTurn
  constructor
  · intro s t ts h
    rw [step, stepWith, nextTurn_of_schedule_cons h]
  · intro s h
    rw [step, stepWith, nextTurn_of_schedule_nil h]

/-! ### What stops a step -/

theorem not_inside_of_windowOffset_none {base a : Nat} (h : windowOffset base a = none) : ¬ (base ≤ a ∧ a < base + 8) := by
  intro hin
  simp [windowOffset, hin] at h

/-- A read by address answers, or is refused for its width or its address (R10). -/
theorem busRead_next_or_refused (base a n : Nat) (s : State) :
    (∃ t, busRead base a n s = .next t) ∨
    (HostOp.wellFormed base (.busRead a n) = false ∧ ∃ r, busRead base a n s = .refused r) := by
  cases hw : windowOffset base a with
  | none =>
    have hout := not_inside_of_windowOffset_none hw
    have hill : HostOp.wellFormed base (.busRead a n) = false := by simp [HostOp.wellFormed]; omega
    exact .inr ⟨hill, .outsideWindow, by simp [busRead, hw]⟩
  | some off =>
    by_cases hn : n = 1
    · left; simp [busRead, hw, hn]
    · right; simp [busRead, hw, hn, HostOp.wellFormed]

/-- A write by address answers, or is refused for its width or its address (R10). -/
theorem busWrite_next_or_refused (base a : Nat) (data : List Byte) (s : State) :
    (∃ t, busWrite base a data s = .next t) ∨
    (HostOp.wellFormed base (.busWrite a data) = false ∧ ∃ r, busWrite base a data s = .refused r) := by
  cases hw : windowOffset base a with
  | none =>
    have hout := not_inside_of_windowOffset_none hw
    have hill : HostOp.wellFormed base (.busWrite a data) = false := by simp [HostOp.wellFormed]; omega
    exact .inr ⟨hill, .outsideWindow, by simp [busWrite, hw]⟩
  | some off =>
    match data with
    | [v] => left; simpa [busWrite, hw] using regWrite_total off v s
    | [] => right; simp [busWrite, hw, HostOp.wellFormed]
    | _ :: _ :: _ => right; simp [busWrite, hw, HostOp.wellFormed]

/-- A host step answers a next state, or it is an access the model does not admit and is refused. -/
theorem hostOp_next_or_refused (op : HostOp) (s : State) :
    (∃ t, hostOp op s = .next t) ∨ (op.wellFormed Config.baseAddr = false ∧ ∃ r, hostOp op s = .refused r) := by
  cases op with
  | read off => exact .inl ⟨_, rfl⟩
  | write off v => exact .inl (regWrite_total off v s)
  | busRead a n => exact busRead_next_or_refused Config.baseAddr a n s
  | busWrite a data => exact busWrite_next_or_refused Config.baseAddr a data s
  | wait => exact .inl ⟨_, rfl⟩
  | reset => exact .inl ⟨_, rfl⟩

/-- While BUSY = 1 the Controller has a micro-op to execute (R14, R23). -/
theorem exists_microOp_of_busy {s : State} (hwf : s.SequencerWf) (hb : s.busy = true) : ∃ op, s.microOp? = some op := by
  obtain ⟨hbusy, hupc, -⟩ := hwf
  obtain ⟨c, hc⟩ := Option.isSome_iff_exists.mp (hbusy.symm.trans hb)
  exact ⟨(program c)[s.upc]'(hupc c hc), by simp [State.microOp?, hc, hupc c hc]⟩

/-- Settles O43, by whose turn it is: a Controller turn finds its micro-op, a Peer turn always moves, and a Host turn is refused
only for an ill-formed access. -/
theorem stepsOnlyRefuseIllFormedAccesses : Obligations.StepsOnlyRefuseIllFormedAccesses := by
  unfold Obligations.StepsOnlyRefuseIllFormedAccesses
  intro s hwf
  cases hturn : s.nextTurn.1 with
  | peer scl sda => exact .inl ⟨_, stepWith_peer hturn⟩
  | controller =>
    left
    cases hb : s.busy with
    | false => exact ⟨_, stepWith_noStep (.inl ⟨hturn, hb⟩)⟩
    | true =>
      obtain ⟨op, hop⟩ := exists_microOp_of_busy hwf hb
      exact ⟨_, stepWith_aboutTo (op := op) (by simp [State.aboutTo, hturn, hb, hop])⟩
  | host =>
    cases hprog : s.hostProg with
    | nil => exact .inl ⟨_, stepWith_noStep (.inr ⟨hturn, hprog⟩)⟩
    | cons op rest =>
      have hnext : s.hostNext op = true := by simp [State.hostNext, hturn, hprog]
      have hstep : step s = hostOp op s.atHostOp := stepWith_hostNext hnext
      rw [hstep]
      obtain hok | ⟨hill, r, href⟩ := hostOp_next_or_refused op s.atHostOp
      · exact .inl hok
      · exact .inr ⟨op, r, hnext, hill, href⟩

end Sys2Proof.Machine
end

section
/-! Proofs of the statements of 10_state.md: the invariant of the machine (R14, R23, R32, R35), who may write what (R16, R17, R20,
R24 to R29), the reset values (R38), the ignored writes (R31), and that no command but PROBE reads NACK (R24). -/

namespace Sys2Proof.Machine

/-! ### What issuing a command leaves as it was -/

section Issue

variable (s : State) (c : Instr) (o : Option Byte)

@[simp] theorem issue_sclO : (s.issue c o).sclO = s.sclO := by unfold State.issue; split <;> rfl
@[simp] theorem issue_sdaO : (s.issue c o).sdaO = s.sdaO := by unfold State.issue; split <;> rfl
@[simp] theorem issue_pScl : (s.issue c o).pScl = s.pScl := by unfold State.issue; split <;> rfl
@[simp] theorem issue_pSda : (s.issue c o).pSda = s.pSda := by unfold State.issue; split <;> rfl
@[simp] theorem issue_ctrlSpeed : (s.issue c o).ctrlSpeed = s.ctrlSpeed := by unfold State.issue; split <;> rfl
@[simp] theorem issue_nack : (s.issue c o).nack = s.nack := by unfold State.issue; split <;> rfl
@[simp] theorem issue_present : (s.issue c o).present = s.present := by unfold State.issue; split <;> rfl
@[simp] theorem issue_rxdata : (s.issue c o).rxdata = s.rxdata := by unfold State.issue; split <;> rfl

end Issue

/-! ### What a step does to the lines, the results and the sequencer -/

/-- The step from `s` to `t` leaves the controller's outputs, the results and the sequencer as they were. -/
structure KeepsController (s t : State) : Prop where
  sclO : t.sclO = s.sclO
  sdaO : t.sdaO = s.sdaO
  busy : t.busy = s.busy
  nack : t.nack = s.nack
  present : t.present = s.present
  rxdata : t.rxdata = s.rxdata
  cmd : t.cmd = s.cmd
  upc : t.upc = s.upc
  txl : t.txl = s.txl
  stallCnt : t.stallCnt = s.stallCnt

/-- A turn taken, before its agent has done anything, keeps the Controller's part. -/
theorem keepsController_atTurn (s : State) : KeepsController s s.atTurn := by constructor <;> simp

theorem keepsController_movePeer (s : State) (a b : Bit) : KeepsController s (s.atTurn.movePeer a b) := by
  constructor <;> simp

/-- A step executes a micro-op, or resets the block, or issues a command to an idle block, or leaves the Controller's part alone. -/
theorem stepWith_cases {limit : Option Nat} {s t : State} (h : stepWith limit s = .next t) :
    (∃ op, s.aboutTo op ∧ t = runMicroOp limit op s.atTurn) ∨
    (s.hostNext .reset ∧ t = s.atHostOp.resetBlock) ∨
    (s.busy = false ∧ ∃ c o, t = s.atHostOp.issue c o) ∨
    KeepsController s t := by
  obtain hmicro | ⟨op, hnext, hop⟩ | ⟨a, b, -, rfl⟩ | ⟨-, rfl⟩ := stepWith_next h
  · exact .inl hmicro
  · obtain ⟨rfl, rfl⟩ | ⟨hidle, c, rfl⟩ | hkeep := hostOp_next hop
    · exact .inr (.inl ⟨hnext, rfl⟩)
    · exact .inr (.inr (.inl ⟨by simpa using hidle, c, _, rfl⟩))
    · obtain ⟨hscl, hsda, -, -, hbusy, hcmd, hupc, htxl, -, hstall, hnack, hpres, hrx⟩ := hkeep
      right; right; right
      constructor <;> simp [*]
  · exact .inr (.inr (.inr (keepsController_movePeer s a b)))
  · exact .inr (.inr (.inr (keepsController_atTurn s)))

/-- A field of the Controller's part that a step changes was changed by a micro-op or by reset. -/
theorem changed_by_microOp_or_reset {α : Type} {f : State → α} {limit : Option Nat} {s t : State}
    (hissue : ∀ c o, f (s.atHostOp.issue c o) = f s) (hkeep : KeepsController s t → f t = f s)
    (h : stepWith limit s = .next t) (hne : f t ≠ f s) :
    (∃ op, s.aboutTo op ∧ f (runMicroOp limit op s.atTurn) ≠ f s) ∨ s.hostNext .reset := by
  obtain ⟨op, habout, rfl⟩ | ⟨hreset, -⟩ | ⟨-, c, o, rfl⟩ | hkept := stepWith_cases h
  · exact .inl ⟨op, habout, hne⟩
  · exact .inr hreset
  · exact absurd (hissue c o) hne
  · exact absurd (hkeep hkept) hne

/-! ### What a micro-op does to the sequencer -/

/-- A micro-op lets the micro-program go on, the poll count cleared by WSCL alone; or is a WSCL that holds below the limit; or ends the
command, as END or as WSCL's abort (R73 to R82, R97). -/
theorem runMicroOp_sequencer (limit : Option Nat) (op : MicroOp) (s : State) :
    (op ≠ .finish ∧ (runMicroOp limit op s).busy = s.busy ∧ (runMicroOp limit op s).cmd = s.cmd ∧
      (runMicroOp limit op s).upc = s.upc + 1 ∧
      (runMicroOp limit op s).stallCnt = if op = .wscl then 0 else s.stallCnt) ∨
    (op = .wscl ∧ (∀ n ∈ limit, s.stallCnt + 1 < n) ∧ runMicroOp limit op s = s.countLowPoll) ∨
    ((op = .finish ∨ op = .wscl) ∧ (runMicroOp limit op s).busy = false ∧ (runMicroOp limit op s).cmd = none ∧
      (runMicroOp limit op s).upc = 0 ∧
      (runMicroOp limit op s).stallCnt = if op = .wscl then 0 else s.stallCnt) := by
  cases op with
  | wscl =>
    simp only [runMicroOp]
    obtain ⟨-, h⟩ | ⟨-, rfl, h⟩ | ⟨-, n, rfl, hn, h⟩ | ⟨-, n, -, -, h⟩ := microWscl_cases limit s <;> rw [h]
    · left; simp
    · right; left; simp
    · right; left; simpa using hn
    · right; right; simp
  | finish =>
    obtain ⟨-, -, -, hstall, -⟩ := microEnd_frame s
    exact .inr (.inr ⟨.inl rfl, rfl, rfl, rfl, hstall⟩)
  | aks => left; simp [runMicroOp, microAks, sampleAck_eq]
  | _ => left; simp [runMicroOp, microSda, microSdab, microScl0, microScl1, microDly, microRxs]

theorem runMicroOp_txl (limit : Option Nat) (op : MicroOp) (s : State) : (runMicroOp limit op s).txl = s.txl := by
  obtain ⟨-, -, -, -, -, htxl, -⟩ := runMicroOp_frame limit op s
  exact htxl

/-! ### The invariant -/

/-- The invariant speaks of the Controller's part alone. -/
theorem KeepsController.inv {limit : Option Nat} {s t : State} (h : KeepsController s t) (hs : s.Inv limit) : t.Inv limit := by
  have hexec : t.executed = s.executed := by simp [State.executed, h.cmd, h.upc]
  have hop : t.microOp? = s.microOp? := by simp [State.microOp?, h.cmd, h.upc]
  simpa only [State.Inv, State.SequencerWf, State.LinesFollowProgram, State.StallWf, hexec, hop, h.busy, h.cmd, h.upc, h.sclO, h.sdaO,
    h.txl, h.stallCnt] using hs

/-- An idle block that has counted no low poll meets the invariant: nothing of a micro-program is executed. -/
theorem inv_of_idle {limit : Option Nat} {s : State} (hl : LimitLegal limit) (hbusy : s.busy = false) (hcmd : s.cmd = none)
    (hupc : s.upc = 0) (hstall : s.stallCnt = 0) : s.Inv limit := by
  have hexec : s.executed = [] := by simp [State.executed, hcmd]
  refine ⟨⟨by simp [hbusy, hcmd], by simp [hcmd], fun _ => hupc⟩, ?_, stallWf_of_zero hl hstall⟩
  simp [State.LinesFollowProgram, hexec, lastDrive]

theorem program_pos (c : Instr) : 0 < (program c).length := by cases c <;> decide

/-- A command that has just been issued meets the invariant. -/
theorem inv_issue {limit : Option Nat} {s : State} (hl : LimitLegal limit) (hidle : s.busy = false) (c : Instr) (o : Option Byte) :
    (s.issue c o).Inv limit := by
  rw [issue_idle hidle]
  refine ⟨⟨rfl, by simp [program_pos], by simp⟩, ?_, stallWf_of_zero hl rfl⟩
  simp [State.LinesFollowProgram, State.executed, lastDrive]

/-- One more micro-op has been executed: its drive is the last, if it drives. -/
theorem lastDrive_concat (drive : MicroOp → Option Bit) (l : List MicroOp) (op : MicroOp) :
    lastDrive drive (l ++ [op]) = (drive op).or (lastDrive drive l) := by simp [lastDrive_append, lastDrive]

/-- A line that follows the executed micro-ops still does after one more of them. -/
theorem line_follows_concat {drive : MicroOp → Option Bit} {l : List MicroOp} {op : MicroOp} {a : Bit}
    (h : ∀ v ∈ lastDrive drive l, a = v) : ∀ v ∈ lastDrive drive (l ++ [op]), (drive op).getD a = v := by
  rw [lastDrive_concat]
  cases drive op with
  | none => simpa using h
  | some w => simp

/-- A micro-op that lets its command go on keeps the invariant. -/
theorem inv_of_advance {limit : Option Nat} {s t : State} {op : MicroOp} (hl : LimitLegal limit) (hs : s.Inv limit)
    (hop : s.microOp? = some op) (hne : op ≠ .finish) (hbusy : t.busy = s.busy) (hcmd : t.cmd = s.cmd) (hupc : t.upc = s.upc + 1)
    (htxl : t.txl = s.txl) (hscl : t.sclO = (sclDrive op).getD s.sclO) (hsda : t.sdaO = (sdaDrive s.txl op).getD s.sdaO)
    (hstall : t.stallCnt = 0) : t.Inv limit := by
  obtain ⟨⟨hrun, -, -⟩, ⟨hsclO, hsdaO⟩, -⟩ := hs
  obtain ⟨c, hc⟩ : ∃ c, s.cmd = some c := by
    cases hc : s.cmd with
    | none => simp [State.microOp?, hc] at hop
    | some c => exact ⟨c, rfl⟩
  have hnext : s.upc + 1 < (program c).length := upc_succ_lt (by simpa [State.microOp?, hc] using hop) hne
  refine ⟨⟨by rw [hbusy, hcmd, hrun], by simpa [hcmd, hc, hupc] using hnext, by simp [hcmd, hc]⟩, ?_, stallWf_of_zero hl hstall⟩
  rw [State.LinesFollowProgram, executed_succ hop hcmd hupc, hscl, hsda, htxl]
  exact ⟨line_follows_concat hsclO, line_follows_concat hsdaO⟩

/-- A WSCL that counts one more low poll, below the limit, keeps the invariant. -/
theorem inv_countLowPoll {limit : Option Nat} {s : State} (hs : s.Inv limit) (hop : s.microOp? = some .wscl)
    (hlow : ∀ n ∈ limit, s.stallCnt + 1 < n) : s.countLowPoll.Inv limit := by
  obtain ⟨hseq, hlines, -⟩ := hs
  exact ⟨hseq, hlines, fun hne => absurd hop hne, hlow⟩

/-- Executing the micro-op at upc keeps the invariant. -/
theorem inv_runMicroOp {limit : Option Nat} {s : State} {op : MicroOp} (hl : LimitLegal limit) (hs : s.Inv limit)
    (hop : s.microOp? = some op) : (runMicroOp limit op s).Inv limit := by
  have hcount : (if op = .wscl then 0 else s.stallCnt) = 0 := by
    obtain ⟨-, -, hzero, -⟩ := hs
    split
    · rfl
    · next hne => exact hzero (by simpa [hop] using hne)
  obtain ⟨hne, hbusy, hcmd, hupc, hstall⟩ | ⟨rfl, hlow, heq⟩ | ⟨-, hbusy, hcmd, hupc, hstall⟩ := runMicroOp_sequencer limit op s
  · exact inv_of_advance hl hs hop hne hbusy hcmd hupc (runMicroOp_txl limit op s) (runMicroOp_sclO limit op s)
      (runMicroOp_sdaO limit op s) (hstall.trans hcount)
  · rw [heq]; exact inv_countLowPoll hs hop hlow
  · exact inv_of_idle hl hbusy hcmd hupc (hstall.trans hcount)

/-- Every step keeps the invariant, at every legal limit. -/
theorem inv_stepWith {limit : Option Nat} {s t : State} (hl : LimitLegal limit) (hs : s.Inv limit) (h : stepWith limit s = .next t) :
    t.Inv limit := by
  obtain ⟨op, habout, rfl⟩ | ⟨-, rfl⟩ | ⟨hidle, c, o, rfl⟩ | hkeep := stepWith_cases h
  · exact inv_runMicroOp hl ((keepsController_atTurn s).inv hs) (by simpa using aboutTo_microOp habout)
  · exact inv_of_idle hl rfl rfl rfl rfl
  · exact inv_issue hl (by simpa using hidle) c o
  · exact hkeep.inv hs

/-- Settles O42: `inv_stepWith`, a case for each thing a step can do to the Controller's part. -/
theorem stepKeepsInvariant : Obligations.StepKeepsInvariant := by
  unfold Obligations.StepKeepsInvariant
  exact ⟨fun _ _ _ hl hs h => inv_stepWith hl hs h, fun _ _ hs h => inv_stepWith config_limitLegal hs h⟩

/-- Settles O41: the block is idle after reset. -/
theorem invariantAtReset : Obligations.InvariantAtReset := by
  unfold Obligations.InvariantAtReset
  exact fun _ hl => inv_of_idle hl rfl rfl rfl rfl

/-! ### The controller's outputs -/

/-- Only SCL0 and SCL1 write scl_o (R75). -/
theorem eq_scl_of_sclO_changed {limit : Option Nat} {op : MicroOp} {s : State} (hne : (runMicroOp limit op s).sclO ≠ s.sclO) :
    op = .scl0 ∨ op = .scl1 := by
  rw [runMicroOp_sclO] at hne
  cases op with
  | scl0 => exact .inl rfl
  | scl1 => exact .inr rfl
  | _ => exact absurd rfl hne

/-- Only SDA and SDAB write sda_o (R74). -/
theorem eq_sda_of_sdaO_changed {limit : Option Nat} {op : MicroOp} {s : State} (hne : (runMicroOp limit op s).sdaO ≠ s.sdaO) :
    (∃ v, op = .sda v) ∨ ∃ i, op = .sdab i := by
  rw [runMicroOp_sdaO] at hne
  cases op with
  | sda v => exact .inl ⟨v, rfl⟩
  | sdab i => exact .inr ⟨i, rfl⟩
  | _ => exact absurd rfl hne

/-- A step that changes scl_o executes SCL0 or SCL1, or is a reset. -/
theorem sclO_writers {limit : Option Nat} {s t : State} (h : stepWith limit s = .next t) (hne : t.sclO ≠ s.sclO) :
    s.aboutTo .scl0 ∨ s.aboutTo .scl1 ∨ s.hostNext .reset := by
  obtain ⟨op, habout, hop⟩ | hreset := changed_by_microOp_or_reset (f := State.sclO) (by simp) KeepsController.sclO h hne
  · obtain rfl | rfl := eq_scl_of_sclO_changed (s := s.atTurn) (by simpa using hop)
    · exact .inl habout
    · exact .inr (.inl habout)
  · exact .inr (.inr hreset)

/-- A step that changes sda_o executes SDA or SDAB, or is a reset. -/
theorem sdaO_writers {limit : Option Nat} {s t : State} (h : stepWith limit s = .next t) (hne : t.sdaO ≠ s.sdaO) :
    (∃ v, s.aboutTo (.sda v) = true) ∨ (∃ i, s.aboutTo (.sdab i) = true) ∨ s.hostNext .reset := by
  obtain ⟨op, habout, hop⟩ | hreset := changed_by_microOp_or_reset (f := State.sdaO) (by simp) KeepsController.sdaO h hne
  · obtain ⟨v, rfl⟩ | ⟨i, rfl⟩ := eq_sda_of_sdaO_changed (s := s.atTurn) (by simpa using hop)
    · exact .inl ⟨v, habout⟩
    · exact .inr (.inl ⟨i, habout⟩)
  · exact .inr (.inr hreset)

/-- Settles O52: `sclO_writers` and `sdaO_writers`; exec is the issue of the command, which drives no line. -/
theorem lineWriters : Obligations.LineWriters := by
  unfold Obligations.LineWriters
  exact ⟨fun _ _ h => ⟨sclO_writers h, sdaO_writers h⟩, fun c s => ⟨_, exec_eq_issue c s, by simp, by simp⟩⟩

/-! ### The results -/

/-- Only AKS writes NACK (R79). -/
theorem eq_aks_of_nack_changed {limit : Option Nat} {op : MicroOp} {s : State} (hne : (runMicroOp limit op s).nack ≠ s.nack) :
    op = .aks := by
  contrapose hne
  cases op with
  | aks => exact absurd rfl hne
  | finish =>
    obtain ⟨-, -, hnack, -⟩ := microEnd_frame s
    exact hnack
  | wscl =>
    simp only [runMicroOp]
    obtain ⟨-, h⟩ | ⟨-, -, h⟩ | ⟨-, n, -, -, h⟩ | ⟨-, n, -, -, h⟩ := microWscl_cases limit s <;> rw [h] <;> simp
  | _ => simp [runMicroOp, microSda, microSdab, microScl0, microScl1, microDly, microRxs]

/-- Only the END of PROBE writes PRESENT, and only the END of READ writes RXDATA (R82). -/
theorem runMicroOp_results (limit : Option Nat) (op : MicroOp) (s : State) :
    ((runMicroOp limit op s).present ≠ s.present → op = .finish ∧ s.cmd = some .probe) ∧
    ((runMicroOp limit op s).rxdata ≠ s.rxdata → op = .finish ∧ s.cmd = some .read) := by
  cases op with
  | finish =>
    simp only [runMicroOp, microEnd, State.commit]
    split <;> simp [*]
  | wscl =>
    simp only [runMicroOp]
    obtain ⟨-, h⟩ | ⟨-, -, h⟩ | ⟨-, n, -, -, h⟩ | ⟨-, n, -, -, h⟩ := microWscl_cases limit s <;> rw [h] <;> simp
  | aks => simp [runMicroOp, microAks, sampleAck_eq]
  | _ => simp [runMicroOp, microSda, microSdab, microScl0, microScl1, microDly, microRxs]

/-- A step that changes NACK executes AKS, or is a reset. -/
theorem nack_writers {limit : Option Nat} {s t : State} (h : stepWith limit s = .next t) (hne : t.nack ≠ s.nack) :
    s.aboutTo .aks ∨ s.hostNext .reset := by
  obtain ⟨op, habout, hop⟩ | hreset := changed_by_microOp_or_reset (f := State.nack) (by simp) KeepsController.nack h hne
  · obtain rfl := eq_aks_of_nack_changed (s := s.atTurn) (by simpa using hop)
    exact .inl habout
  · exact .inr hreset

/-- A step that changes PRESENT executes the END of PROBE, or is a reset. -/
theorem present_writers {limit : Option Nat} {s t : State} (h : stepWith limit s = .next t) (hne : t.present ≠ s.present) :
    (s.cmd = some .probe ∧ s.aboutTo .finish) ∨ s.hostNext .reset := by
  obtain ⟨op, habout, hop⟩ | hreset := changed_by_microOp_or_reset (f := State.present) (by simp) KeepsController.present h hne
  · obtain ⟨rfl, hcmd⟩ := (runMicroOp_results limit op s.atTurn).1 (by simpa using hop)
    exact .inl ⟨by simpa using hcmd, habout⟩
  · exact .inr hreset

/-- A step that changes RXDATA executes the END of READ, or is a reset. -/
theorem rxdata_writers {limit : Option Nat} {s t : State} (h : stepWith limit s = .next t) (hne : t.rxdata ≠ s.rxdata) :
    (s.cmd = some .read ∧ s.aboutTo .finish) ∨ s.hostNext .reset := by
  obtain ⟨op, habout, hop⟩ | hreset := changed_by_microOp_or_reset (f := State.rxdata) (by simp) KeepsController.rxdata h hne
  · obtain ⟨rfl, hcmd⟩ := (runMicroOp_results limit op s.atTurn).2 (by simpa using hop)
    exact .inl ⟨by simpa using hcmd, habout⟩
  · exact .inr hreset

/-- Settles O53: `nack_writers`, `present_writers` and `rxdata_writers` at the machine's own limit. -/
theorem resultWriters : Obligations.ResultWriters := by
  unfold Obligations.ResultWriters
  exact fun _ _ h => ⟨nack_writers h, present_writers h, rxdata_writers h⟩

/-! ### The error flags -/

/-- The step from `s` to `t` clears no error flag. -/
structure KeepsErrorFlags (s t : State) : Prop where
  errCmd : s.errCmd = true → t.errCmd = true
  errBusy : s.errBusy = true → t.errBusy = true
  errStall : s.errStall = true → t.errStall = true

theorem keepsErrorFlags_raiseEvent (e : BlockEvent) (s : State) : KeepsErrorFlags s (s.raiseEvent e) := by
  cases e <;> constructor <;> simp

/-- A micro-op clears no error flag: WSCL's abort, the only one that writes one, sets it. -/
theorem keepsErrorFlags_runMicroOp (limit : Option Nat) (op : MicroOp) (s : State) :
    KeepsErrorFlags s (runMicroOp limit op s) := by
  obtain ⟨-, -, -, -, -, -, herrCmd, herrBusy, -⟩ := runMicroOp_frame limit op s
  refine ⟨by simp [herrCmd], by simp [herrBusy], ?_⟩
  cases op with
  | finish => simp [runMicroOp, microEnd_frame]
  | wscl =>
    simp only [runMicroOp]
    obtain ⟨-, h⟩ | ⟨-, -, h⟩ | ⟨-, n, -, -, h⟩ | ⟨-, n, -, -, h⟩ := microWscl_cases limit s <;> rw [h] <;> simp
  | aks => simp [runMicroOp, microAks, sampleAck_eq]
  | _ => simp [runMicroOp, microSda, microSdab, microScl0, microScl1, microDly, microRxs]

/-- A CMD write clears no error flag, whichever of its branches it takes (R47). -/
theorem keepsErrorFlags_cmdWrite {v : Byte} {s t : State} (h : cmdWrite v s = .next t) : KeepsErrorFlags s t := by
  obtain ⟨-, rfl⟩ | ⟨hidle, c, -, rfl⟩ | ⟨-, rfl⟩ := cmdWrite_cases h
  · exact keepsErrorFlags_raiseEvent _ s
  · rw [issue_idle hidle]; constructor <;> simp
  · exact keepsErrorFlags_raiseEvent _ s

/-- A window write clears no error flag unless it is a STATUS write (R45). -/
theorem regWrite_errorFlags {off : Offset} {v : Byte} {s t : State} (h : regWrite off v s = .next t) :
    (off = 0x2#3 ∧ t = s.clearErrors v) ∨ KeepsErrorFlags s t := by
  obtain ⟨-, rfl⟩ | ⟨-, hcmd⟩ | hstatus | ⟨-, rfl⟩ | ⟨-, rfl⟩ | rfl := regWrite_cases h
  · right
    unfold State.writeCtrl
    split
    · exact keepsErrorFlags_raiseEvent _ s
    · constructor <;> simp
  · exact .inr (keepsErrorFlags_cmdWrite hcmd)
  · exact .inl hstatus
  all_goals (right; constructor <;> simp)

/-- A host step that may clear an error flag is the reset or a STATUS write, by offset or by address. -/
theorem hostOp_errorFlags {op : HostOp} {s t : State} (h : hostOp op s = .next t) :
    op = .reset ∨
    (∃ v, (op = .write 0x2#3 v ∨ op = .busWrite (Config.baseAddr + 2) [v]) ∧ t = s.clearErrors v) ∨
    KeepsErrorFlags s t := by
  obtain ⟨hreset, -⟩ | ⟨v, rfl⟩ | rfl | ⟨off, v, hop, hwrite⟩ := hostOp_cases h
  · exact .inl hreset
  · right; right; constructor <;> simp
  · right; right
    obtain ⟨p, r, hpoll⟩ := waitPoll_frame s
    rw [hpoll]
    constructor <;> simp
  · obtain ⟨rfl, rfl⟩ | hkeep := regWrite_errorFlags hwrite
    · exact .inr (.inl ⟨v, hop, rfl⟩)
    · exact .inr (.inr hkeep)

/-- The next step writes `v` to STATUS, by offset or by address. -/
def State.statusWriteNext (s : State) (v : Byte) : Prop :=
  s.hostNext (.write 0x2#3 v) ∨ s.hostNext (.busWrite (Config.baseAddr + 2) [v])

/-- A step that may clear an error flag is the reset or a STATUS write. -/
theorem stepWith_errorFlags {limit : Option Nat} {s t : State} (h : stepWith limit s = .next t) :
    s.hostNext .reset ∨ (∃ v, s.statusWriteNext v ∧ t = s.atHostOp.clearErrors v) ∨ KeepsErrorFlags s t := by
  obtain ⟨op, -, rfl⟩ | ⟨op, hnext, hop⟩ | ⟨a, b, -, rfl⟩ | ⟨-, rfl⟩ := stepWith_next h
  · obtain ⟨herrCmd, herrBusy, herrStall⟩ := keepsErrorFlags_runMicroOp limit op s.atTurn
    exact .inr (.inr ⟨by simpa using herrCmd, by simpa using herrBusy, by simpa using herrStall⟩)
  · obtain rfl | ⟨v, rfl | rfl, rfl⟩ | ⟨herrCmd, herrBusy, herrStall⟩ := hostOp_errorFlags hop
    · exact .inl hnext
    · exact .inr (.inl ⟨v, .inl hnext, rfl⟩)
    · exact .inr (.inl ⟨v, .inr hnext, rfl⟩)
    · exact .inr (.inr ⟨by simpa using herrCmd, by simpa using herrBusy, by simpa using herrStall⟩)
  all_goals (right; right; constructor <;> simp)

/-- A flag `f` that bit `i` of a STATUS write clears, and that no other step but reset does, is sticky. -/
theorem errorFlag_sticky {f : State → Bit} {i : Nat} {limit : Option Nat} {s t : State}
    (hclear : ∀ v, f (s.atHostOp.clearErrors v) = (f s && !v.getLsbD i)) (hkeep : KeepsErrorFlags s t → f s = true → f t = true)
    (h : stepWith limit s = .next t) (hset : f s = true) (hcleared : f t = false) :
    s.hostNext .reset ∨ ∃ v : Byte, v.getLsbD i = true ∧ s.statusWriteNext v := by
  obtain hreset | ⟨v, hstatus, rfl⟩ | hkept := stepWith_errorFlags h
  · exact .inl hreset
  · exact .inr ⟨v, by simpa [hclear, hset] using hcleared, hstatus⟩
  · simp [hkeep hkept hset] at hcleared

/-- Settles O54: `errorFlag_sticky` at the three flags and their STATUS bits; an idle block starts every command. -/
theorem errorFlagsSticky : Obligations.ErrorFlagsSticky := by
  unfold Obligations.ErrorFlagsSticky
  constructor
  · intro s t h
    refine ⟨?_, ?_, ?_⟩
    · exact errorFlag_sticky (f := State.errCmd) (by simp) KeepsErrorFlags.errCmd h
    · exact errorFlag_sticky (f := State.errBusy) (by simp) KeepsErrorFlags.errBusy h
    · exact errorFlag_sticky (f := State.errStall) (by simp) KeepsErrorFlags.errStall h
  · intro c s hidle
    exact ⟨_, exec_eq_issue c s, by simp [issue_idle hidle], by simp [issue_idle hidle]⟩

/-! ### What a Controller or Peer turn does -/

/-- A turn that is not the Host's executes a micro-op, moves the Peer, or is the Controller's while idle. -/
theorem stepWith_not_host {limit : Option Nat} {s t : State} (hturn : s.nextTurn.1 ≠ .host) (h : stepWith limit s = .next t) :
    (∃ op, s.aboutTo op ∧ t = runMicroOp limit op s.atTurn) ∨
    (∃ a b, s.nextTurn.1 = .peer a b ∧ t = s.atTurn.movePeer a b) ∨
    (s.nextTurn.1 = .controller ∧ s.busy = false ∧ t = s.atTurn) := by
  obtain hmicro | ⟨op, hnext, -⟩ | hpeer | ⟨⟨hctl, hidle⟩ | ⟨hhost, -⟩, rfl⟩ := stepWith_next h
  · exact .inl hmicro
  · exact absurd (hostNext_turn hnext) hturn
  · exact .inr (.inl hpeer)
  · exact .inr (.inr ⟨hctl, hidle, rfl⟩)
  · exact absurd hhost hturn

/-- A turn that is not the Host's leaves the Host's registers as they were, and takes only its own turn off the schedule. -/
theorem stepWith_not_host_frame {limit : Option Nat} {s t : State} (hturn : s.nextTurn.1 ≠ .host) (h : stepWith limit s = .next t) :
    t.ctrlSpeed = s.ctrlSpeed ∧ t.txdata = s.txdata ∧ t.addr = s.addr ∧ t.schedule = s.atTurn.schedule := by
  obtain ⟨op, -, rfl⟩ | ⟨a, b, -, rfl⟩ | ⟨-, -, rfl⟩ := stepWith_not_host hturn h
  · obtain ⟨-, -, hspeed, htxdata, haddr, -, -, -, -, hsched, -, -⟩ := runMicroOp_frame limit op s.atTurn
    simp [hspeed, htxdata, haddr, hsched]
  · simp
  · simp

/-- A turn that is not the Host's starts no command. -/
theorem stepWith_not_host_cmd {limit : Option Nat} {s t : State} (hturn : s.nextTurn.1 ≠ .host) (h : stepWith limit s = .next t) :
    t.cmd = s.cmd ∨ t.cmd = none := by
  obtain ⟨op, -, rfl⟩ | ⟨a, b, -, rfl⟩ | ⟨-, -, rfl⟩ := stepWith_not_host hturn h
  · simpa using runMicroOp_cmd limit op s.atTurn
  · simp
  · simp

/-! ### The Host's registers -/

/-- While BUSY = 1 no window write changes CTRL (R44, R95). -/
theorem regWrite_ctrlSpeed_of_busy {off : Offset} {v : Byte} {s t : State} (hb : s.busy = true) (h : regWrite off v s = .next t) :
    t.ctrlSpeed = s.ctrlSpeed := by
  obtain ⟨-, rfl⟩ | ⟨-, hcmd⟩ | ⟨-, rfl⟩ | ⟨-, rfl⟩ | ⟨-, rfl⟩ | rfl := regWrite_cases h
  · simp [State.writeCtrl, hb]
  · obtain ⟨-, rfl⟩ | ⟨-, c, -, rfl⟩ | ⟨-, rfl⟩ := cmdWrite_cases hcmd <;> simp
  all_goals simp

/-- While BUSY = 1 no host step but reset changes CTRL. -/
theorem hostOp_ctrlSpeed_of_busy {op : HostOp} {s t : State} (hb : s.busy = true) (h : hostOp op s = .next t) :
    op = .reset ∨ t.ctrlSpeed = s.ctrlSpeed := by
  obtain ⟨hreset, -⟩ | ⟨v, rfl⟩ | rfl | ⟨off, v, -, hwrite⟩ := hostOp_cases h
  · exact .inl hreset
  · simp
  · obtain ⟨p, r, hpoll⟩ := waitPoll_frame s
    simp [hpoll]
  · exact .inr (regWrite_ctrlSpeed_of_busy hb hwrite)

/-- A step that changes CTRL finds the block idle, or is a reset. -/
theorem ctrlSpeed_writers {limit : Option Nat} {s t : State} (h : stepWith limit s = .next t) (hne : t.ctrlSpeed ≠ s.ctrlSpeed) :
    s.busy = false ∨ s.hostNext .reset := by
  cases hb : s.busy with
  | false => exact .inl rfl
  | true =>
    obtain ⟨op, habout, -⟩ | ⟨op, hnext, hop⟩ | ⟨a, b, -, rfl⟩ | ⟨-, rfl⟩ := stepWith_next h
    · obtain ⟨hspeed, -⟩ := stepWith_not_host_frame (by simp [aboutTo_turn habout]) h
      exact absurd hspeed hne
    · obtain rfl | hspeed := hostOp_ctrlSpeed_of_busy (by simpa using hb) hop
      · exact .inr hnext
      · exact absurd (by simpa using hspeed) hne
    · exact absurd (by simp) hne
    · exact absurd (by simp) hne

/-- Settles O55: no turn but the Host's writes a register of the Host, and `ctrlSpeed_writers`. -/
theorem hostRegisterWriters : Obligations.HostRegisterWriters := by
  unfold Obligations.HostRegisterWriters
  intro s t h
  refine ⟨fun hchanged => ?_, ctrlSpeed_writers h⟩
  by_contra hturn
  obtain ⟨hspeed, htxdata, haddr, -⟩ := stepWith_not_host_frame hturn h
  simp [hspeed, htxdata, haddr] at hchanged

/-! ### NACK is read by PROBE alone -/

/-- The same state with another NACK. -/
def State.setNack (b : Bit) (s : State) : State := { s with nack := b }

@[simp] theorem setNack_busy (b : Bit) (s : State) : (s.setNack b).busy = s.busy := rfl
@[simp] theorem setNack_cmd (b : Bit) (s : State) : (s.setNack b).cmd = s.cmd := rfl
@[simp] theorem setNack_stallCnt (b : Bit) (s : State) : (s.setNack b).stallCnt = s.stallCnt := rfl
@[simp] theorem setNack_scl (b : Bit) (s : State) : (s.setNack b).scl = s.scl := rfl
@[simp] theorem setNack_microOp? (b : Bit) (s : State) : (s.setNack b).microOp? = s.microOp? := rfl

theorem nextTurn_setNack (b : Bit) (s : State) : (s.setNack b).nextTurn = (s.nextTurn.1, s.nextTurn.2.setNack b) := by
  cases hs : s.schedule <;> simp [State.nextTurn, State.setNack, hs]

theorem atTurn_setNack (b : Bit) (s : State) : (s.setNack b).atTurn = s.atTurn.setNack b := by
  simp [State.atTurn, nextTurn_setNack]

theorem aboutTo_setNack (b : Bit) (s : State) (op : MicroOp) : (s.setNack b).aboutTo op = s.aboutTo op := by
  simp [State.aboutTo, nextTurn_setNack]

/-- Without PROBE, END commits RXDATA for READ and nothing else (R82). -/
theorem commit_of_ne_probe {s : State} (hcmd : s.cmd ≠ some .probe) :
    s.commit = if s.cmd = some .read then { s with rxdata := s.sh } else s := by
  unfold State.commit
  split <;> simp_all

theorem commit_setNack {s : State} (hcmd : s.cmd ≠ some .probe) (b : Bit) : (s.setNack b).commit = s.commit.setNack b := by
  rw [commit_of_ne_probe hcmd, commit_of_ne_probe (by simpa using hcmd), setNack_cmd]
  split <;> rfl

theorem microWscl_setNack (limit : Option Nat) (b : Bit) (s : State) :
    microWscl limit (s.setNack b) = (microWscl limit s).setNack b := by
  obtain ⟨hscl, h⟩ | ⟨hscl, rfl, h⟩ | ⟨hscl, n, rfl, hn, h⟩ | ⟨hscl, n, rfl, hn, h⟩ := microWscl_cases limit s <;> rw [h]
  · simp [microWscl, hscl]; rfl
  · simp [microWscl, hscl]; rfl
  · simp [microWscl, hscl, Nat.not_le.mpr hn]; rfl
  · simp [microWscl, hscl, hn]; rfl

/-- A micro-op of a command other than PROBE ignores NACK: AKS overwrites it, and every other one leaves it. -/
theorem runMicroOp_setNack {s : State} (hcmd : s.cmd ≠ some .probe) (limit : Option Nat) (op : MicroOp) (b : Bit) :
    runMicroOp limit op (s.setNack b) = runMicroOp limit op s ∨
    runMicroOp limit op (s.setNack b) = (runMicroOp limit op s).setNack b := by
  cases op with
  | aks => left; simp only [runMicroOp, microAks, sampleAck_eq]; rfl
  | finish => right; simp only [runMicroOp, microEnd, commit_setNack hcmd]; rfl
  | wscl => right; exact microWscl_setNack limit b s
  | _ => right; rfl

/-- A turn that is not the Host's, while PROBE does not run, ignores NACK. -/
theorem stepWith_setNack {limit : Option Nat} {s t : State} (hturn : s.nextTurn.1 ≠ .host) (hcmd : s.cmd ≠ some .probe)
    (h : stepWith limit s = .next t) (b : Bit) :
    stepWith limit (s.setNack b) = .next t ∨ stepWith limit (s.setNack b) = .next (t.setNack b) := by
  obtain ⟨op, habout, rfl⟩ | ⟨x, y, hpeer, rfl⟩ | ⟨hctl, hidle, rfl⟩ := stepWith_not_host hturn h
  · have habout' : (s.setNack b).aboutTo op := by rwa [aboutTo_setNack]
    rw [stepWith_aboutTo habout', atTurn_setNack]
    exact (runMicroOp_setNack (by simpa using hcmd) limit op b).imp (congrArg _) (congrArg _)
  · right
    rw [stepWith_peer (by rw [nextTurn_setNack]; exact hpeer), atTurn_setNack]
    rfl
  · right
    rw [← atTurn_setNack]
    exact stepWith_noStep (.inl ⟨by rw [nextTurn_setNack]; exact hctl, hidle⟩)

/-- A run of Controller and Peer turns that begins while PROBE does not run ignores NACK. -/
theorem runWith_setNack {limit : Option Nat} {n : Nat} {s t : State} (b : Bit) (hlen : n ≤ s.schedule.length)
    (hhost : .host ∉ s.schedule) (hcmd : s.cmd ≠ some .probe) (h : runWith limit n s = .next t) :
    runWith limit n (s.setNack b) = .next t ∨ runWith limit n (s.setNack b) = .next (t.setNack b) := by
  induction n generalizing s with
  | zero => cases h; exact .inr rfl
  | succ n ih =>
    obtain ⟨u, hstep, hrun⟩ := runWith_succ_next h
    obtain ⟨x, xs, hs⟩ := List.exists_cons_of_length_pos (show 0 < s.schedule.length by omega)
    have hturn : s.nextTurn.1 ≠ .host := by
      rw [nextTurn_of_schedule_cons hs]
      rintro rfl
      simp [hs] at hhost
    have hsched : u.schedule = xs := by
      obtain ⟨-, -, -, hsched⟩ := stepWith_not_host_frame hturn hstep
      rw [hsched, atTurn_of_schedule hs]
    have hcmd' : u.cmd ≠ some .probe := by
      obtain hsame | hnone := stepWith_not_host_cmd hturn hstep
      · rwa [hsame]
      · simp [hnone]
    obtain hequal | hnack := stepWith_setNack hturn hcmd hstep b
    · exact .inl ((runWith_succ n hequal).trans hrun)
    · rw [runWith_succ n hnack]
      simp only [hs, List.length_cons, List.mem_cons, not_or] at hlen hhost
      exact ih (by rw [hsched]; omega) (by rw [hsched]; exact hhost.2) hcmd' hrun

/-- Settles O58: `runWith_setNack` at the machine's own limit. -/
theorem commandsIgnoreNack : Obligations.CommandsIgnoreNack := by
  unfold Obligations.CommandsIgnoreNack
  exact fun _ _ _ b hlen hhost hcmd h => runWith_setNack b hlen hhost hcmd h

/-! ### The Peer's outputs -/

/-- No host step changes the Peer's outputs, reset included (R113). -/
theorem hostOp_peerLines {op : HostOp} {s t : State} (h : hostOp op s = .next t) : t.pScl = s.pScl ∧ t.pSda = s.pSda := by
  obtain ⟨-, rfl⟩ | ⟨-, c, rfl⟩ | ⟨-, -, hpScl, hpSda, -⟩ := hostOp_next h
  · simp
  · simp
  · exact ⟨hpScl, hpSda⟩

/-- A step leaves the Peer's outputs as they were, or is the Peer's move to the new levels. -/
theorem stepWith_peerLines {limit : Option Nat} {s t : State} (h : stepWith limit s = .next t) :
    (t.pScl = s.pScl ∧ t.pSda = s.pSda) ∨ s.nextTurn.1 = .peer t.pScl t.pSda := by
  obtain ⟨op, -, rfl⟩ | ⟨op, -, hop⟩ | ⟨a, b, hpeer, rfl⟩ | ⟨-, rfl⟩ := stepWith_next h
  · obtain ⟨hpScl, hpSda, -⟩ := runMicroOp_frame limit op s.atTurn
    exact .inl ⟨by simpa using hpScl, by simpa using hpSda⟩
  · exact .inl (by simpa using hostOp_peerLines hop)
  · exact .inr hpeer
  · simp

/-- Settles O15: a Peer turn is its move, and `stepWith_peerLines`. -/
theorem peerMoves : Obligations.PeerMoves := by
  unfold Obligations.PeerMoves
  intro s
  refine ⟨fun _ _ hpeer => stepWith_peer hpeer, fun t h hchanged => ?_⟩
  obtain ⟨hpScl, hpSda⟩ | hpeer := stepWith_peerLines h
  · simp [hpScl, hpSda] at hchanged
  · exact hpeer

/-! ### Reset values and ignored writes -/

/-- Settles O17: each value is read off `State.reset`, and `State.resetBlock` keeps the Peer's outputs and the model's own fields. -/
theorem resetValues : Obligations.ResetValues := by
  unfold Obligations.ResetValues
  exact ⟨rfl, rfl, rfl, rfl, rfl, rfl, rfl, rfl, rfl, rfl, rfl, rfl, rfl, rfl, rfl, rfl, rfl, fun _ => rfl⟩

/-- A write to RXDATA or to a reserved offset changes nothing (R29, R31). -/
theorem regWrite_ignored {off : Offset} (hoff : off = 0x4#3 ∨ off = 0x6#3 ∨ off = 0x7#3) (v : Byte) (s : State) :
    regWrite off v s = .next s := by
  obtain rfl | rfl | rfl := hoff <;> rfl

/-- The reserved offsets read 0x00 (R31). -/
theorem regRead_reserved {off : Offset} (hoff : off = 0x6#3 ∨ off = 0x7#3) (s : State) : s.regRead off = 0x00#8 := by
  obtain rfl | rfl := hoff <;> rfl

/-- Settles O23: `regWrite_ignored` and `regRead_reserved` at the host step that is next. -/
theorem ignoredWrites : Obligations.IgnoredWrites := by
  unfold Obligations.IgnoredWrites
  refine fun s off => ⟨fun v hoff hnext => ?_, fun hoff hnext => ?_⟩
  · have hstep : step s = hostOp (.write off v) s.atHostOp := stepWith_hostNext hnext
    rw [hstep]
    exact regWrite_ignored hoff v s.atHostOp
  · have hstep : step s = hostOp (.read off) s.atHostOp := stepWith_hostNext hnext
    rw [hstep, hostOp, regRead_reserved hoff, State.deliver, atHostOp_returned]

end Sys2Proof.Machine
end

section
/-! Proofs of the statements of 20_memory.md: what each host access does (R42 to R47, R50, R52), how a command is issued (R47, R48), and
that a running command does not read the operand registers (R46, R57). -/

namespace Sys2Proof.Machine

/-! ### The host step that is next -/

theorem step_hostNext {s : State} {op : HostOp} (h : s.hostNext op) : step s = hostOp op s.atHostOp := stepWith_hostNext h

theorem step_read {s : State} {off : Offset} (h : s.hostNext (.read off)) :
    step s = .next (s.atHostOp.deliver (s.regRead off)) := by
  rw [step_hostNext h, hostOp, atHostOp_regRead]

theorem step_write {s : State} {off : Offset} {v : Byte} (h : s.hostNext (.write off v)) :
    step s = regWrite off v s.atHostOp := step_hostNext h

theorem atHostOp_withHostOp (op : HostOp) (s : State) : (s.withHostOp op).atHostOp = s := rfl

/-! ### Register reads -/

/-- There are eight offsets (R40). -/
theorem offset_cases (off : Offset) :
    off = 0x0#3 ∨ off = 0x1#3 ∨ off = 0x2#3 ∨ off = 0x3#3 ∨ off = 0x4#3 ∨ off = 0x5#3 ∨ off = 0x6#3 ∨ off = 0x7#3 := by
  revert off; decide

theorem speedByte_eq (k : Speed) : speedByte k = if k = .fast then 0x01#8 else 0x00#8 := by cases k <;> rfl

section ReadAt

variable (s : State)

theorem regRead_ctrl : s.regRead 0x0#3 = speedByte s.ctrlSpeed := rfl
theorem regRead_cmd : s.regRead 0x1#3 = 0x00#8 := rfl
theorem regRead_status : s.regRead 0x2#3 = s.statusByte := rfl
theorem regRead_txdata : s.regRead 0x3#3 = s.txdata := rfl
theorem regRead_rxdata : s.regRead 0x4#3 = s.rxdata := rfl
theorem regRead_addr : s.regRead 0x5#3 = s.addr.setWidth 8 := rfl

end ReadAt

/-- Settles O19: a read delivers `State.regRead`, which is one register at each of the eight offsets. -/
theorem registerReads : Obligations.RegisterReads := by
  unfold Obligations.RegisterReads
  intro s off h
  rw [step_read h, State.deliver, atHostOp_returned]
  obtain rfl | rfl | rfl | rfl | rfl | rfl | rfl | rfl := offset_cases off
  · rw [regRead_ctrl, speedByte_eq]; rfl
  · rw [regRead_cmd]; rfl
  · rw [regRead_status]; rfl
  · rw [regRead_txdata]; rfl
  · rw [regRead_rxdata]; rfl
  · rw [regRead_addr]; rfl
  · rw [regRead_reserved (.inl rfl)]; rfl
  · rw [regRead_reserved (.inr rfl)]; rfl

/-! ### Register writes -/

section WriteAt

variable (v : Byte) (s : State)

theorem regWrite_ctrl : regWrite 0x0#3 v s = .next (s.writeCtrl v) := rfl
theorem regWrite_cmd : regWrite 0x1#3 v s = cmdWrite v s := rfl
theorem regWrite_status : regWrite 0x2#3 v s = .next (s.clearErrors v) := rfl
theorem regWrite_txdata : regWrite 0x3#3 v s = .next { s with txdata := v } := rfl
theorem regWrite_addr : regWrite 0x5#3 v s = .next { s with addr := addrOfByte v } := rfl

end WriteAt

theorem writeCtrl_busy {s : State} (hb : s.busy = true) (v : Byte) : s.writeCtrl v = s.raiseEvent .busyOverrun := by
  simp [State.writeCtrl, hb]

theorem writeCtrl_idle {s : State} (hb : s.busy = false) (v : Byte) :
    s.writeCtrl v = { s with ctrlSpeed := speedOfByte v } := by
  simp [State.writeCtrl, hb]

/-- Settles O20: `writeCtrl_busy` and `writeCtrl_idle` at the host step that is next. -/
theorem ctrlWrite : Obligations.CtrlWrite := by
  unfold Obligations.CtrlWrite
  intro s v h
  rw [step_write h, regWrite_ctrl]
  constructor
  · intro hb
    rw [writeCtrl_busy (by simpa using hb)]
    rfl
  · intro hb
    rw [writeCtrl_idle (by simpa using hb)]
    rfl

/-- A STATUS bit written with 1 clears its flag; written with 0 it leaves it (R45). -/
theorem and_not_eq_ite (flag bit : Bit) : (flag && !bit) = if bit then false else flag := by cases bit <;> simp

/-- Settles O21: the write is `State.clearErrors`, flag by flag. -/
theorem statusWriteClearsErrors : Obligations.StatusWriteClearsErrors := by
  unfold Obligations.StatusWriteClearsErrors
  intro s v h
  rw [step_write h, regWrite_status, State.clearErrors]
  simp only [and_not_eq_ite, atHostOp_errCmd, atHostOp_errBusy, atHostOp_errStall]

theorem addrOfByte_eq_extractLsb' (v : Byte) : addrOfByte v = v.extractLsb' 0 7 := by
  simp [addrOfByte, BitVec.setWidth_eq_extractLsb']

/-- Settles O22: the two writes of R46 at the host step that is next. -/
theorem operandRegisterWrites : Obligations.OperandRegisterWrites := by
  unfold Obligations.OperandRegisterWrites
  intro s v
  constructor
  · intro h
    rw [step_write h, regWrite_txdata]
  · intro h
    rw [step_write h, regWrite_addr, addrOfByte_eq_extractLsb']

/-! ### What no register write changes -/

@[simp] theorem issue_returned (s : State) (c : Instr) (o : Option Byte) : (s.issue c o).returned = s.returned := by
  unfold State.issue; split <;> rfl

/-- A CMD write returns no byte to the Host. -/
theorem cmdWrite_returned {v : Byte} {s t : State} (h : cmdWrite v s = .next t) : t.returned = s.returned := by
  obtain ⟨-, rfl⟩ | ⟨-, c, -, rfl⟩ | ⟨-, rfl⟩ := cmdWrite_cases h <;> simp

/-- A window write returns no byte to the Host. -/
theorem regWrite_returned {off : Offset} {v : Byte} {s t : State} (h : regWrite off v s = .next t) :
    t.returned = s.returned := by
  obtain ⟨-, rfl⟩ | ⟨-, hcmd⟩ | ⟨-, rfl⟩ | ⟨-, rfl⟩ | ⟨-, rfl⟩ | rfl := regWrite_cases h
  · unfold State.writeCtrl; split <;> simp
  · exact cmdWrite_returned hcmd
  all_goals simp

/-- Settles O26: `hostOp_next` for the lines, the results and the sequencer, with `regWrite_returned` and
`regWrite_ctrlSpeed_of_busy`. -/
theorem registerWriteFrame : Obligations.RegisterWriteFrame := by
  unfold Obligations.RegisterWriteFrame
  intro s off v h
  obtain ⟨t, ht⟩ := regWrite_total off v s.atHostOp
  refine ⟨t, (step_write h).trans ht, ?_⟩
  have hret := regWrite_returned ht
  obtain ⟨hreset, -⟩ | ⟨hidle, c, rfl⟩ | hkeep := hostOp_next (op := .write off v) ht
  · cases hreset
  · have hidle' : s.busy = false := by simpa using hidle
    simp [hidle']
  · obtain ⟨hscl, hsda, hpScl, hpSda, hbusy, hcmd, hupc, htxl, hsh, hstall, hnack, hpres, hrx⟩ := hkeep
    have hspeed : s.busy = true → t.ctrlSpeed = s.ctrlSpeed := fun hb => by
      simpa using regWrite_ctrlSpeed_of_busy (by simpa using hb) ht
    simp +contextual [*]

/-! ### Accesses by host address -/

theorem windowOffset_outside {base a : Nat} (h : a < base ∨ base + 8 ≤ a) : windowOffset base a = none := by
  have hout : ¬ (base ≤ a ∧ a < base + 8) := by omega
  simp [windowOffset, hout]

section BusAccess

variable (base : Nat) (off : Offset) (s : State)

/-- Inside the window a read of one byte is the register read, and one of another width is refused (R50). -/
theorem busRead_inside (n : Nat) : busRead base (base + off.toNat) n s =
    if n = 1 then .next (s.deliver (s.regRead off)) else .refused .accessWidth := by
  rw [busRead, windowOffset_inside]

theorem busWrite_inside_byte (v : Byte) : busWrite base (base + off.toNat) [v] s = regWrite off v s := by
  rw [busWrite, windowOffset_inside]

theorem busWrite_inside_width {data : List Byte} (h : data.length ≠ 1) :
    busWrite base (base + off.toNat) data s = .refused .accessWidth := by
  rw [busWrite, windowOffset_inside]
  match data with
  | [] => rfl
  | [_] => exact absurd rfl h
  | _ :: _ :: _ => rfl

end BusAccess

theorem busRead_outside {base a : Nat} (h : a < base ∨ base + 8 ≤ a) (n : Nat) (s : State) :
    busRead base a n s = .refused .outsideWindow := by
  rw [busRead, windowOffset_outside h]

theorem busWrite_outside {base a : Nat} (h : a < base ∨ base + 8 ≤ a) (data : List Byte) (s : State) :
    busWrite base a data s = .refused .outsideWindow := by
  rw [busWrite, windowOffset_outside h]

/-- Settles O27: an access by address inside and outside the window, right and wrong in width. -/
theorem busAccesses : Obligations.BusAccesses := by
  unfold Obligations.BusAccesses
  intro s address
  constructor
  · rintro off rfl
    refine ⟨fun h => ?_, fun v h => ?_, fun n hn h => ?_, fun data hlen h => ?_⟩ <;> rw [step_hostNext h, hostOp]
    · rw [busRead_inside, if_pos rfl, State.deliver, atHostOp_regRead, atHostOp_returned]
    · rw [busWrite_inside_byte]
    · rw [busRead_inside, if_neg hn]
    · rw [busWrite_inside_width _ _ _ hlen]
  · intro hout
    refine ⟨fun n h => ?_, fun data h => ?_⟩ <;> rw [step_hostNext h, hostOp]
    · rw [busRead_outside hout]
    · rw [busWrite_outside hout]

/-! ### Issuing a command -/

/-- Settles O29: exec is the issue of the command with its operand, dropped or accepted. -/
theorem commandIssue : Obligations.CommandIssue := by
  unfold Obligations.CommandIssue
  constructor
  · intro i s hb
    rw [exec_eq_issue, issue_busy hb]
    rfl
  · intro s hb
    obtain ⟨haddr, -⟩ := addressByte s.addr
    simp [exec_eq_issue, issue_idle hb, latched, State.sendOperand, State.probeOperand, haddr]

theorem decode_encode (c : Instr) : decode (encode c) = .ok c := by cases c <;> rfl

/-- The only byte that decodes to a command is its opcode (R60, R61). -/
theorem eq_encode_of_decode {v : Byte} {c : Instr} (h : decode v = .ok c) : v = encode c := by
  unfold decode at h
  split at h <;> cases h <;> exact BitVec.eq_of_toNat_eq ‹_›

theorem cmdWrite_of_decode {v : Byte} {c : Instr} (h : decode v = .ok c) (s : State) : cmdWrite v s = exec c s := by
  rw [cmdWrite, h]

theorem cmdWrite_reserved {v : Byte} (h : v = 0x00#8 ∨ 0x09#8 ≤ v) (s : State) : cmdWrite v s = .next s.reservedWrite := by
  rw [cmdWrite, decode_error_of_reserved h]

theorem tableByte_toNat (v : Byte) : tableByte 8 v.toNat = v := by
  simp [tableByte, Nat.mod_eq_of_lt v.isLt]

/-- Settles O8: each of the three host steps is a CMD write of a byte that decodes to the command. -/
theorem stepRunsDecodedCommand : Obligations.StepRunsDecodedCommand := by
  unfold Obligations.StepRunsDecodedCommand
  rintro s v i hdec -
  refine ⟨fun h => ?_, fun h => ?_, ?_⟩
  · rw [step_write h, regWrite_cmd, cmdWrite_of_decode hdec]
  · rw [step_hostNext h, hostOp, ← cmdWrite_of_decode hdec]
    exact busWrite_inside_byte Config.baseAddr 0x1#3 s.atHostOp v
  · rw [State.withFetchWord, tableByte_toNat, step_write (hostNext_withHostOp _ _), atHostOp_withHostOp]
    exact cmdWrite_of_decode (decode_encode i) s

/-! ### The branches of a CMD write -/

/-- While BUSY = 1 a CMD write sets ERR_BUSY alone, whatever the byte (R47, R95). -/
theorem cmdWrite_busy {s : State} (hb : s.busy = true) (v : Byte) : cmdWrite v s = .next (s.raiseEvent .busyOverrun) := by
  cases hdec : decode v with
  | ok c => rw [cmdWrite_of_decode hdec, exec_eq_issue, issue_busy hb]
  | error e => simp [cmdWrite, hdec, State.reservedWrite, hb]

theorem reservedWrite_idle {s : State} (hb : s.busy = false) : s.reservedWrite = s.raiseEvent .reservedCommand := by
  simp [State.reservedWrite, hb]

/-- The byte to serialize after a command is accepted: the operand of SEND and of PROBE, else the one of before (R33, R62). -/
theorem getD_latched (c : Instr) (s : State) :
    (latched c s).getD s.txl = if c = .send then s.txdata else if c = .probe then s.addr.concat false else s.txl := by
  cases c <;> rfl

/-- A CMD write after which a command runs that did not run before is the write of its opcode to an idle block. -/
theorem cmdWrite_starts {v : Byte} {s t : State} {c : Instr} (h : cmdWrite v s = .next t) (hafter : t.cmd = some c)
    (hbefore : s.cmd ≠ some c) : s.busy = false ∧ v = encode c := by
  obtain ⟨-, rfl⟩ | ⟨hidle, d, hdec, rfl⟩ | ⟨-, rfl⟩ := cmdWrite_cases h
  · exact absurd hafter hbefore
  · rw [issue_idle hidle] at hafter
    obtain rfl : d = c := Option.some.inj hafter
    exact ⟨hidle, eq_encode_of_decode hdec⟩
  · exact absurd hafter hbefore

/-- A window write that starts a command is a CMD write of its opcode to an idle block. -/
theorem regWrite_starts {off : Offset} {v : Byte} {s t : State} {c : Instr} (h : regWrite off v s = .next t)
    (hafter : t.cmd = some c) (hbefore : s.cmd ≠ some c) : s.busy = false ∧ off = 0x1#3 ∧ v = encode c := by
  obtain ⟨-, rfl⟩ | ⟨hoff, hcmd⟩ | ⟨-, rfl⟩ | ⟨-, rfl⟩ | ⟨-, rfl⟩ | rfl := regWrite_cases h
  · have hkeep : (s.writeCtrl v).cmd = s.cmd := by unfold State.writeCtrl; split <;> rfl
    exact absurd (hkeep.symm.trans hafter) hbefore
  · obtain ⟨hidle, hv⟩ := cmdWrite_starts hcmd hafter hbefore
    exact ⟨hidle, hoff, hv⟩
  all_goals exact absurd hafter hbefore

/-- A host step that starts a command is a CMD write of its opcode, by offset or by address, to an idle block. -/
theorem hostOp_starts {op : HostOp} {s t : State} {c : Instr} (h : hostOp op s = .next t)
    (hafter : t.cmd = some c) (hbefore : s.cmd ≠ some c) :
    s.busy = false ∧ (op = .write 0x1#3 (encode c) ∨ op = .busWrite (Config.baseAddr + 1) [encode c]) := by
  obtain ⟨-, rfl⟩ | ⟨v, rfl⟩ | rfl | ⟨off, v, hop, hwrite⟩ := hostOp_cases h
  · cases hafter
  · exact absurd hafter hbefore
  · obtain ⟨p, r, hpoll⟩ := waitPoll_frame s
    rw [hpoll] at hafter
    exact absurd hafter hbefore
  · obtain ⟨hidle, rfl, rfl⟩ := regWrite_starts hwrite hafter hbefore
    exact ⟨hidle, hop⟩

/-- A step that starts a command is the Host's, and it is such a CMD write. -/
theorem stepWith_starts {limit : Option Nat} {s t : State} {c : Instr} (h : stepWith limit s = .next t)
    (hafter : t.cmd = some c) (hbefore : s.cmd ≠ some c) :
    s.busy = false ∧ (s.hostNext (.write 0x1#3 (encode c)) ∨ s.hostNext (.busWrite (Config.baseAddr + 1) [encode c])) := by
  by_cases hturn : s.nextTurn.1 = .host
  · obtain ⟨op, habout, -⟩ | ⟨op, hnext, hop⟩ | ⟨a, b, hpeer, -⟩ | ⟨-, rfl⟩ := stepWith_next h
    · simp [aboutTo_turn habout] at hturn
    · obtain ⟨hidle, rfl | rfl⟩ := hostOp_starts hop hafter (by simpa using hbefore)
      · exact ⟨by simpa using hidle, .inl hnext⟩
      · exact ⟨by simpa using hidle, .inr hnext⟩
    · simp [hpeer] at hturn
    · exact absurd (by simpa using hafter) hbefore
  · obtain hsame | hnone := stepWith_not_host_cmd hturn h
    · exact absurd (hsame.symm.trans hafter) hbefore
    · simp [hnone] at hafter

/-- Settles O56: the three branches of a CMD write, and `stepWith_starts`. (`cmdWrite` itself names the model's function.) -/
theorem cmdWriteBranchesAndStarts : Obligations.CmdWrite := by
  unfold Obligations.CmdWrite
  refine ⟨fun s v h => ?_, fun s t c h hafter hbefore => stepWith_starts h hafter hbefore⟩
  rw [step_write h, regWrite_cmd]
  refine ⟨fun hb => ?_, fun hb hres => ?_, fun c hb hdec => ?_⟩
  · rw [cmdWrite_busy (by simpa using hb)]
    rfl
  · rw [cmdWrite_reserved hres, reservedWrite_idle (by simpa using hb)]
    rfl
  · rw [cmdWrite_of_decode hdec, exec_eq_issue, issue_idle (by simpa using hb), getD_latched]
    simp only [atHostOp_txdata, atHostOp_addr, atHostOp_txl]

/-! ### A running command does not read the operand registers -/

/-- The same state with another TXDATA, ADDR and CTRL.SPEED. -/
def State.setOperands (v : Byte) (a : Addr7) (k : Speed) (s : State) : State :=
  { s with txdata := v, addr := a, ctrlSpeed := k }

section SetOperands

variable (v : Byte) (a : Addr7) (k : Speed) (s : State)

@[simp] theorem setOperands_busy : (s.setOperands v a k).busy = s.busy := rfl
@[simp] theorem setOperands_cmd : (s.setOperands v a k).cmd = s.cmd := rfl
@[simp] theorem setOperands_stallCnt : (s.setOperands v a k).stallCnt = s.stallCnt := rfl
@[simp] theorem setOperands_scl : (s.setOperands v a k).scl = s.scl := rfl
@[simp] theorem setOperands_microOp? : (s.setOperands v a k).microOp? = s.microOp? := rfl

theorem nextTurn_setOperands : (s.setOperands v a k).nextTurn = (s.nextTurn.1, s.nextTurn.2.setOperands v a k) := by
  cases hs : s.schedule <;> simp [State.nextTurn, State.setOperands, hs]

theorem atTurn_setOperands : (s.setOperands v a k).atTurn = s.atTurn.setOperands v a k := by
  simp [State.atTurn, nextTurn_setOperands]

theorem aboutTo_setOperands (op : MicroOp) : (s.setOperands v a k).aboutTo op = s.aboutTo op := by
  simp [State.aboutTo, nextTurn_setOperands]

theorem commit_setOperands : (s.setOperands v a k).commit = s.commit.setOperands v a k := by
  simp only [State.commit, setOperands_cmd]
  split <;> rfl

theorem microWscl_setOperands (limit : Option Nat) :
    microWscl limit (s.setOperands v a k) = (microWscl limit s).setOperands v a k := by
  obtain ⟨hscl, h⟩ | ⟨hscl, rfl, h⟩ | ⟨hscl, n, rfl, hn, h⟩ | ⟨hscl, n, rfl, hn, h⟩ := microWscl_cases limit s <;> rw [h]
  · simp [microWscl, hscl]; rfl
  · simp [microWscl, hscl]; rfl
  · simp [microWscl, hscl, Nat.not_le.mpr hn]; rfl
  · simp [microWscl, hscl, hn]; rfl

/-- A micro-op reads none of the three: SDAB drives from the latched `txl`, and DLY has no duration (R33, R77). -/
theorem runMicroOp_setOperands (limit : Option Nat) (op : MicroOp) :
    runMicroOp limit op (s.setOperands v a k) = (runMicroOp limit op s).setOperands v a k := by
  cases op with
  | aks => simp only [runMicroOp, microAks, sampleAck_eq]; rfl
  | finish => simp only [runMicroOp, microEnd, commit_setOperands]; rfl
  | wscl => exact microWscl_setOperands v a k s limit
  | _ => rfl

/-- A turn that is not the Host's does the same with the three registers at other values. -/
theorem stepWith_setOperands {limit : Option Nat} {s t : State} (hturn : s.nextTurn.1 ≠ .host)
    (h : stepWith limit s = .next t) : stepWith limit (s.setOperands v a k) = .next (t.setOperands v a k) := by
  obtain ⟨op, habout, rfl⟩ | ⟨x, y, hpeer, rfl⟩ | ⟨hctl, hidle, rfl⟩ := stepWith_not_host hturn h
  · rw [stepWith_aboutTo (by rwa [aboutTo_setOperands]), atTurn_setOperands, runMicroOp_setOperands]
  · rw [stepWith_peer (by rw [nextTurn_setOperands]; exact hpeer), atTurn_setOperands]
    rfl
  · rw [← atTurn_setOperands]
    exact stepWith_noStep (.inl ⟨by rw [nextTurn_setOperands]; exact hctl, hidle⟩)

end SetOperands

/-- A change of the state that every turn but the Host's carries through, a run of such turns carries through. -/
theorem runWith_commutes {f : State → State} {limit : Option Nat}
    (hf : ∀ s t, s.nextTurn.1 ≠ .host → stepWith limit s = .next t → stepWith limit (f s) = .next (f t))
    {n : Nat} {s t : State} (hlen : n ≤ s.schedule.length) (hhost : .host ∉ s.schedule) (h : runWith limit n s = .next t) :
    runWith limit n (f s) = .next (f t) := by
  induction n generalizing s with
  | zero => cases h; rfl
  | succ n ih =>
    obtain ⟨u, hstep, hrun⟩ := runWith_succ_next h
    obtain ⟨x, xs, hs⟩ := List.exists_cons_of_length_pos (show 0 < s.schedule.length by omega)
    simp only [hs, List.length_cons, List.mem_cons, not_or] at hlen hhost
    have hturn : s.nextTurn.1 ≠ .host := by rw [nextTurn_of_schedule_cons hs]; exact Ne.symm hhost.1
    have hsched : u.schedule = xs := by
      obtain ⟨-, -, -, hsched⟩ := stepWith_not_host_frame hturn hstep
      rw [hsched, atTurn_of_schedule hs]
    rw [runWith_succ n (hf s u hturn hstep)]
    exact ih (by rw [hsched]; omega) (by rw [hsched]; exact hhost.2) hrun

/-- Settles O57: `runWith_commutes` for `State.setOperands`, at the machine's own limit. -/
theorem runningCommandIgnoresOperandRegisters : Obligations.RunningCommandIgnoresOperandRegisters := by
  unfold Obligations.RunningCommandIgnoresOperandRegisters
  intro n s t v a k hlen hhost h
  exact runWith_commutes (f := State.setOperands v a k) (fun _ _ => stepWith_setOperands v a k) hlen hhost h

end Sys2Proof.Machine
end

section
/-! Proofs of the statements of 30_encoding.md: the opcode map (R59 to R61, R68), the host program notation (R69, R70), the
micro-programs and their census (R66, R72), and the outputs each command leaves at its END (R72). -/

namespace Sys2Proof.Machine

/-! ### Opcodes -/

/-- Settles O1: each command decodes from its opcode (`decode_encode`), and `decode_error_of_reserved`. -/
theorem opcodeMap : Obligations.OpcodeMap := by
  unfold Obligations.OpcodeMap
  exact ⟨decode_encode .start, decode_encode .stop, decode_encode .send, decode_encode .read, decode_encode .waitack,
    decode_encode .ack, decode_encode .nackc, decode_encode .probe, fun _ hres => decode_error_of_reserved hres⟩

/-- Settles O2: `eq_encode_of_decode` one way, `decode_encode` the other. -/
theorem decodeInvertsEncode : Obligations.DecodeInvertsEncode := by
  unfold Obligations.DecodeInvertsEncode
  intro v i
  constructor
  · exact eq_encode_of_decode
  · rintro rfl
    exact decode_encode i

/-! ### The host program notation -/

/-- One pseudo-instruction assembles to the host steps of its expansion (R69, R70). -/
theorem assembleAll_singleton (p : Pseudo) : assembleAll [p] = (expand p).map assemble := by simp [assembleAll]

/-- Settles O3: the expansion of each pseudo-instruction, assembled statement by statement. -/
theorem pseudoExpansions : Obligations.PseudoExpansions := by
  unfold Obligations.PseudoExpansions
  intro b a
  simp only [assembleAll_singleton]
  exact ⟨rfl, rfl, rfl, rfl, rfl, rfl, rfl, rfl, rfl, rfl⟩

/-- A poll that reads BUSY = 1 puts the wait back at the head of the host program (R69). -/
theorem waitPoll_busy {s : State} (hb : s.busy = true) :
    waitPoll s = { s with returned := s.statusByte :: s.returned, hostProg := .wait :: s.hostProg } := by
  rw [waitPoll, statusByte_busy, if_pos hb]
  rfl

/-- A poll that reads BUSY = 0 leaves the loop (R69). -/
theorem waitPoll_idle {s : State} (hb : s.busy = false) :
    waitPoll s = { s with returned := s.statusByte :: s.returned } := by
  rw [waitPoll, statusByte_busy, if_neg (by simp [hb])]
  rfl

/-- A host step put back where it was taken from leaves only the turn used up. -/
theorem atHostOp_restore {s : State} {op : HostOp} (h : s.hostNext op) :
    { s.atHostOp with hostProg := op :: s.atHostOp.hostProg } = s.atTurn := by
  rw [atHostOp_hostProg, ← hostNext_prog h, ← atTurn_hostProg s]
  rfl

/-- Settles O28: `waitPoll_busy`, which restores the wait, and `waitPoll_idle`. -/
theorem waitLoop : Obligations.WaitLoop := by
  unfold Obligations.WaitLoop
  intro s h
  rw [step_hostNext h, hostOp]
  constructor
  · intro hb
    rw [waitPoll_busy (by simpa using hb), ← atHostOp_restore h, atHostOp_statusByte, atHostOp_returned]
  · intro hb
    rw [waitPoll_idle (by simpa using hb), atHostOp_statusByte, atHostOp_returned]

/-! ### The micro-programs -/

/-- Settles O6: each list, length and count, and the last levels driven, are read off the micro-program. -/
theorem microProgramCensus : Obligations.MicroProgramCensus := by
  unfold Obligations.MicroProgramCensus
  refine ⟨?lists, ?counts, ?lastLevels⟩
  case lists => exact ⟨rfl, rfl, rfl, rfl, rfl, rfl, rfl, rfl⟩
  case counts => decide
  case lastLevels =>
    intro txl c
    cases c <;> rfl

/-- A program that drives no level on a line has no micro-op that drives one. -/
theorem drive_eq_none_of_lastDrive {drive : MicroOp → Option Bit} {l : List MicroOp} (h : lastDrive drive l = none)
    {op : MicroOp} (hop : op ∈ l) : drive op = none := by
  induction l with
  | nil => cases hop
  | cons x xs ih =>
    obtain ⟨hxs, hx⟩ := Option.or_eq_none_iff.mp h
    cases hop with
    | head => exact hx
    | tail _ hmem => exact ih hxs hmem

/-- READ drives no data level (R72, R88). -/
theorem sdaDrive_read (txl : Byte) {op : MicroOp} (hop : op ∈ program .read) : sdaDrive txl op = none := by
  obtain ⟨-, -, hlast⟩ := microProgramCensus
  exact drive_eq_none_of_lastDrive (congrArg Prod.snd (hlast txl .read)) hop

theorem finish_not_mem_dropLast (c : Instr) : .finish ∉ (program c).dropLast := by cases c <;> decide

theorem program_eq_concat_finish (c : Instr) : program c = (program c).dropLast ++ [.finish] := by cases c <;> rfl

/-- At END everything before the END has been executed (R82). -/
theorem take_eq_dropLast_of_finish {c : Instr} {k : Nat} (h : (program c)[k]? = some .finish) :
    (program c).take k = (program c).dropLast := by
  obtain ⟨hk, -⟩ := List.getElem?_eq_some_iff.mp h
  have hlast : ¬ k < (program c).length - 1 := fun hlt =>
    finish_not_mem_dropLast c (List.mem_of_getElem? (i := k) (by rw [List.getElem?_dropLast, if_pos hlt, h]))
  rw [List.dropLast_eq_take, show k = (program c).length - 1 by omega]

/-! ### The outputs at END -/

theorem microOp?_of_cmd {s : State} {c : Instr} (hc : s.cmd = some c) : s.microOp? = (program c)[s.upc]? := by
  simp [State.microOp?, hc]

/-- At END the last level driven on a line is the last one the whole micro-program drives: END drives none (R82). -/
theorem lastDrive_executed_of_finish {drive : MicroOp → Option Bit} (hend : drive .finish = none) {s : State} {c : Instr}
    (hc : s.cmd = some c) (hop : s.microOp? = some .finish) : lastDrive drive s.executed = lastDrive drive (program c) := by
  calc lastDrive drive s.executed
      = lastDrive drive ((program c).take s.upc) := by simp [State.executed, hc]
    _ = lastDrive drive (program c).dropLast := by rw [take_eq_dropLast_of_finish ((microOp?_of_cmd hc).symm.trans hop)]
    _ = lastDrive drive ((program c).dropLast ++ [.finish]) := by rw [lastDrive_concat, hend, Option.none_or]
    _ = lastDrive drive (program c) := by rw [← program_eq_concat_finish]

theorem eq_getD_of_forall_mem {α : Type} {o : Option α} {a : α} (h : ∀ v ∈ o, a = v) : a = o.getD a := by
  cases o with
  | none => rfl
  | some v => exact h v rfl

/-- At END each line is at the last level the micro-program drives on it, and as it was where it drives none. -/
theorem lines_at_finish {limit : Option Nat} {s : State} {c : Instr} (hs : s.Inv limit) (hc : s.cmd = some c)
    (hop : s.microOp? = some .finish) :
    (s.sclO, s.sdaO) = Prod.map (·.getD s.sclO) (·.getD s.sdaO)
      (lastDrive sclDrive (program c), lastDrive (sdaDrive s.txl) (program c)) := by
  obtain ⟨-, ⟨hscl, hsda⟩, -⟩ := hs
  rw [lastDrive_executed_of_finish rfl hc hop] at hscl hsda
  exact Prod.ext (eq_getD_of_forall_mem hscl) (eq_getD_of_forall_mem hsda)

/-- END changes no line (R82). -/
theorem stepWith_finish {limit : Option Nat} {s : State} (h : s.aboutTo .finish) :
    ∃ t, stepWith limit s = .next t ∧ t.sclO = s.sclO ∧ t.sdaO = s.sdaO := by
  obtain ⟨hscl, hsda, -⟩ := microEnd_frame s.atTurn
  exact ⟨microEnd s.atTurn, stepWith_aboutTo h, by simpa using hscl, by simpa using hsda⟩

/-- A step through which READ keeps running leaves sda_o as it was (R88). -/
theorem stepWith_sdaO_of_read {limit : Option Nat} {s t : State} (hc : s.cmd = some .read) (h : stepWith limit s = .next t)
    (hafter : t.cmd = some .read) : t.sdaO = s.sdaO := by
  obtain ⟨op, habout, rfl⟩ | ⟨-, rfl⟩ | ⟨-, c, o, rfl⟩ | hkeep := stepWith_cases h
  · have hmem : op ∈ program .read := List.mem_of_getElem? ((microOp?_of_cmd hc).symm.trans (aboutTo_microOp habout))
    simp [runMicroOp_sdaO, sdaDrive_read _ hmem]
  · cases hafter
  · simp
  · exact hkeep.sdaO

theorem keepsRunning_succ {c : Instr} {n : Nat} {s t : State} (h : step s = .next t) :
    keepsRunning c (n + 1) s = (t.cmd == some c && keepsRunning c n t) := by
  simp [keepsRunning, h]

/-- Over any run through which READ keeps running, sda_o stays as it was. -/
theorem run_sdaO_of_read {n : Nat} {s t : State} (hc : s.cmd = some .read) (hkeeps : keepsRunning .read n s = true)
    (h : run n s = .next t) : t.sdaO = s.sdaO := by
  induction n generalizing s with
  | zero => cases h; rfl
  | succ n ih =>
    obtain ⟨u, hstep, hrun⟩ := runWith_succ_next h
    rw [keepsRunning_succ hstep, Bool.and_eq_true, beq_iff_eq] at hkeeps
    obtain ⟨hu, hkeeps⟩ := hkeeps
    exact (ih hu hkeeps hrun).trans (stepWith_sdaO_of_read hc hstep hu)

/-- Settles O44: `run_sdaO_of_read`; and at END the lines hold the last levels of the census (`lines_at_finish`, O6), which END
leaves as they are. -/
theorem linesAtEnd : Obligations.LinesAtEnd := by
  unfold Obligations.LinesAtEnd
  refine ⟨fun n s t _ hc hkeeps h => run_sdaO_of_read hc hkeeps h, fun s c hs hc habout => ?_⟩
  obtain ⟨t, hstep, htscl, htsda⟩ := stepWith_finish (limit := Config.stretchLimit) habout
  obtain ⟨-, -, hlast⟩ := microProgramCensus
  refine ⟨t, hstep, ?_⟩
  calc (t.sclO, t.sdaO)
      = (s.sclO, s.sdaO) := by rw [htscl, htsda]
    _ = Prod.map (·.getD s.sclO) (·.getD s.sdaO) (lastDrive sclDrive (program c), lastDrive (sdaDrive s.txl) (program c)) :=
        lines_at_finish hs hc (aboutTo_microOp habout)
    _ = _ := by rw [hlast]; cases c <;> rfl

end Sys2Proof.Machine
end

section
/-! Proofs of the statements of 40_microops.md: the form of the micro-programs (R75, R82), the line at every poll (R75, R76), and what
a Controller turn does for each micro-op (R73 to R82). -/

namespace Sys2Proof.Machine

/-! ### The clock line at a poll -/

/-- In every micro-program a WSCL comes immediately after an SCL1: the converse of the order of R75. -/
theorem isChain_scl1_wscl (c : Instr) : (program c).IsChain (fun a b => b = .wscl → a = .scl1) := by
  cases c <;> decide +kernel

theorem program_head_ne_wscl (c : Instr) : (program c)[0]? ≠ some .wscl := by cases c <;> decide

/-- What is executed before a WSCL ends with an SCL1. -/
theorem exists_take_eq_concat_scl1 {c : Instr} {k : Nat} (h : (program c)[k]? = some .wscl) :
    ∃ l, (program c).take k = l ++ [.scl1] := by
  cases k with
  | zero => exact absurd h (program_head_ne_wscl c)
  | succ j =>
    obtain ⟨hj, hwscl⟩ := List.getElem?_eq_some_iff.mp h
    have hscl1 : (program c)[j] = .scl1 := List.isChain_iff_getElem.mp (isChain_scl1_wscl c) j hj hwscl
    exact ⟨(program c).take j, by rw [← hscl1, List.take_concat_get']⟩

/-- When WSCL is next, the clock line was last driven high. -/
theorem lastDrive_executed_of_wscl {s : State} (hop : s.microOp? = some .wscl) :
    lastDrive sclDrive s.executed = some true := by
  cases hc : s.cmd with
  | none => simp [State.microOp?, hc] at hop
  | some c =>
    obtain ⟨l, hl⟩ := exists_take_eq_concat_scl1 ((microOp?_of_cmd hc).symm.trans hop)
    calc lastDrive sclDrive s.executed
        = lastDrive sclDrive (l ++ [.scl1]) := by simp [State.executed, hc, hl]
      _ = some true := by rw [lastDrive_concat, sclDrive, Option.some_or]

/-- At every WSCL the controller releases the clock (R76). -/
theorem sclO_of_wscl {s : State} (hlines : s.LinesFollowProgram) (hop : s.microOp? = some .wscl) : s.sclO = true := by
  obtain ⟨hscl, -⟩ := hlines
  exact hscl true (lastDrive_executed_of_wscl hop)

/-- Settles O45: `sclO_of_wscl`, and with scl_o = 1 the line is at the Peer's level (R19). -/
theorem pollsSeeThePeer : Obligations.PollsSeeThePeer := by
  unfold Obligations.PollsSeeThePeer
  rintro limit s ⟨-, hlines, -⟩ habout
  have hscl : s.sclO = true := sclO_of_wscl hlines (aboutTo_microOp habout)
  exact ⟨hscl, by rw [State.scl, hscl, Bool.true_and]⟩

/-! ### The form of the micro-programs -/

theorem raisesPolled_program (c : Instr) : raisesPolled (program c) = true := by cases c <;> rfl

theorem endsOnce_program (c : Instr) : endsOnce (program c) = true := by cases c <;> rfl

/-- Settles O5: `raisesPolled_program` and `endsOnce_program`. -/
theorem microProgramsWellFormed : Obligations.MicroProgramsWellFormed := by
  unfold Obligations.MicroProgramsWellFormed
  intro c
  rw [MicroOp.programWellFormed, raisesPolled_program, endsOnce_program, Bool.and_self]

/-! ### A Controller turn -/

theorem step_aboutTo {s : State} {op : MicroOp} (h : s.aboutTo op) :
    step s = .next (runMicroOp Config.stretchLimit op s.atTurn) := stepWith_aboutTo h

theorem aboutTo_of_cmd {s : State} {c : Instr} {op : MicroOp} (hturn : s.nextTurn.1 = .controller) (hbusy : s.busy = true)
    (hcmd : s.cmd = some c) (hop : (program c)[s.upc]? = some op) : s.aboutTo op := by
  simp [State.aboutTo, hturn, hbusy, microOp?_of_cmd hcmd, hop]

/-- Settles O9: an idle Controller lets its turn pass, and a busy one is about to execute prog(cmd)[upc]. -/
theorem controllerStepRunsMicroOp : Obligations.ControllerStepRunsMicroOp := by
  unfold Obligations.ControllerStepRunsMicroOp
  intro s hturn
  constructor
  · intro hidle
    exact stepWith_noStep (.inl ⟨hturn, hidle⟩)
  · intro c op hbusy hcmd hop
    exact step_aboutTo (aboutTo_of_cmd hturn hbusy hcmd hop)

/-! ### What each micro-op does -/

section MicroOpEffect

variable (limit : Option Nat) (s : State)

theorem runMicroOp_sda (v : Bit) : runMicroOp limit (.sda v) s = { s with sdaO := v, upc := s.upc + 1 } := rfl

theorem runMicroOp_sdab (i : Fin 8) :
    runMicroOp limit (.sdab i) s = { s with sdaO := s.txl.getLsbD i, upc := s.upc + 1 } := rfl

theorem runMicroOp_scl0 : runMicroOp limit .scl0 s = { s with sclO := false, upc := s.upc + 1 } := rfl

theorem runMicroOp_scl1 : runMicroOp limit .scl1 s = { s with sclO := true, upc := s.upc + 1 } := rfl

theorem runMicroOp_dly : runMicroOp limit .dly s = { s with upc := s.upc + 1 } := rfl

theorem runMicroOp_rxs : runMicroOp limit .rxs s = { s with sh := shiftIn s.sh s.sda, upc := s.upc + 1 } := rfl

theorem runMicroOp_aks : runMicroOp limit .aks s = { s with nack := s.sda, upc := s.upc + 1 } := by
  rw [runMicroOp, microAks, sampleAck_eq]; rfl

end MicroOpEffect

/-- Settles O10: the four equations of the line drivers, in the state where the turn is taken. -/
theorem lineDrivers : Obligations.LineDrivers := by
  unfold Obligations.LineDrivers
  intro s
  refine ⟨fun v h => ?_, fun i h => ?_, fun h => ?_, fun h => ?_⟩ <;> rw [step_aboutTo h]
  · rw [runMicroOp_sda, ← atTurn_upc s]
  · rw [runMicroOp_sdab, ← atTurn_upc s, ← atTurn_txl s]
  · rw [runMicroOp_scl0, ← atTurn_upc s]
  · rw [runMicroOp_scl1, ← atTurn_upc s]

/-- {b[6:0], x} is 2 b + x, modulo 256 (R78). -/
theorem shiftIn_eq_ofNat (b : Byte) (x : Bit) : shiftIn b x = BitVec.ofNat 8 (2 * b.toNat + x.toNat) := by
  apply BitVec.eq_of_toNat_eq
  have hx : x.toNat < 2 := Bool.toNat_lt x
  rw [shiftIn, BitVec.toNat_concat, BitVec.extractLsb'_toNat, BitVec.toNat_ofNat, Nat.shiftRight_zero]
  omega

/-- Settles O11: the equations of DLY, RXS and AKS; the sample is SDA = sda_o AND p_sda (R19), shifted in by `shiftIn_eq_ofNat`. -/
theorem delayAndSamplers : Obligations.DelayAndSamplers := by
  unfold Obligations.DelayAndSamplers
  intro s
  refine ⟨fun h => ?_, fun h => ?_, fun h => ?_⟩ <;> rw [step_aboutTo h]
  · rw [runMicroOp_dly, ← atTurn_upc s]
  · rw [runMicroOp_rxs, shiftIn_eq_ofNat, atTurn_sh, atTurn_sda, atTurn_upc, State.sda]
  · rw [runMicroOp_aks, atTurn_sda, atTurn_upc, State.sda]

/-! ### The clock-stretching detector -/

/-- A poll that reads SCL = 1 advances, at every limit (R76). -/
theorem runMicroOp_wscl_high {s : State} (hscl : s.scl = true) (limit : Option Nat) :
    runMicroOp limit .wscl s = { s with stallCnt := 0, upc := s.upc + 1 } := by
  simp [runMicroOp, microWscl, hscl, State.advance]

/-- A low poll with no limit, or below it, is counted and held (R35, R76). -/
theorem runMicroOp_wscl_hold {limit : Option Nat} {s : State} (hscl : s.scl = false) (hlow : ∀ n ∈ limit, s.stallCnt + 1 < n) :
    runMicroOp limit .wscl s = { s with stallCnt := s.stallCnt + 1 } := by
  cases limit with
  | none => simp [runMicroOp, microWscl, hscl, State.countLowPoll]
  | some n =>
    have hn : ¬ n ≤ s.stallCnt + 1 := Nat.not_le.mpr (hlow n rfl)
    simp [runMicroOp, microWscl, hscl, hn, State.countLowPoll]

/-- A low poll that reaches the limit aborts the command (R76, R97). -/
theorem runMicroOp_wscl_abort {n : Nat} {s : State} (hscl : s.scl = false) (hn : n ≤ s.stallCnt + 1) :
    runMicroOp (some n) .wscl s = { s with errStall := true, cmd := none, busy := false, upc := 0, stallCnt := 0 } := by
  simp [runMicroOp, microWscl, hscl, hn, State.raiseEvent, State.goIdle]

/-- Settles O12: WSCL advances, holds or aborts, in the state where the turn is taken. -/
theorem clockStretchDetector : Obligations.ClockStretchDetector := by
  unfold Obligations.ClockStretchDetector
  intro limit s h
  rw [stepWith_aboutTo h]
  refine ⟨fun hhigh => ?_, fun hlow => ?_⟩
  · have hscl : s.atTurn.scl = true := (atTurn_scl s).trans hhigh
    rw [runMicroOp_wscl_high hscl, atTurn_upc]
  · have hscl : s.atTurn.scl = false := (atTurn_scl s).trans hlow
    refine ⟨?_, ?_, ?_⟩
    · rintro rfl
      rw [runMicroOp_wscl_hold hscl (by simp), atTurn_stallCnt]
    · rintro n rfl hn
      rw [runMicroOp_wscl_hold hscl (by simpa using hn), atTurn_stallCnt]
    · rintro n rfl hn
      rw [runMicroOp_wscl_abort hscl (by simpa using hn)]

/-! ### END -/

/-- END of READ commits the received byte (R82). -/
theorem microEnd_read {s : State} (hcmd : s.cmd = some .read) :
    microEnd s = { s with rxdata := s.sh, cmd := none, busy := false, upc := 0 } := by
  simp [microEnd, State.commit, hcmd, State.goIdle]

/-- END of PROBE commits whether a slave acknowledged (R82). -/
theorem microEnd_probe {s : State} (hcmd : s.cmd = some .probe) :
    microEnd s = { s with present := !s.nack, cmd := none, busy := false, upc := 0 } := by
  simp [microEnd, State.commit, hcmd, State.goIdle]

/-- END of every other command commits nothing (R82). -/
theorem microEnd_of_no_result {s : State} (hread : s.cmd ≠ some .read) (hprobe : s.cmd ≠ some .probe) :
    microEnd s = { s with cmd := none, busy := false, upc := 0 } := by
  rw [microEnd, commit_of_ne_probe hprobe, if_neg hread]; rfl

/-- Settles O13: `endsOnce_program`; END commits by the command that runs, and then the block is idle, its outputs as they were. -/
theorem endCommits : Obligations.EndCommits := by
  unfold Obligations.EndCommits
  refine ⟨endsOnce_program, fun s h => ?_⟩
  have hstep : step s = .next (microEnd s.atTurn) := step_aboutTo h
  rw [hstep]
  refine ⟨fun hread => ?_, fun hprobe => ?_, fun hread hprobe => ?_, ?_⟩
  · rw [microEnd_read (by simpa using hread), ← atTurn_sh s]
  · rw [microEnd_probe (by simpa using hprobe), ← atTurn_nack s]
  · rw [microEnd_of_no_result (by simpa using hread) (by simpa using hprobe)]
  · rintro t ⟨⟩
    obtain ⟨hscl, hsda, -⟩ := microEnd_frame s.atTurn
    exact ⟨rfl, rfl, hscl.trans (atTurn_sclO s), hsda.trans (atTurn_sdaO s)⟩

/-! ### The micro-pc -/

/-- A micro-op that is neither END nor a low poll goes on to the next one of the same command (R80). -/
theorem runMicroOp_goes_on {op : MicroOp} {s : State} (hne : op ≠ .finish) (hpoll : op = .wscl → s.scl = true)
    (limit : Option Nat) :
    (runMicroOp limit op s).upc = s.upc + 1 ∧ (runMicroOp limit op s).cmd = s.cmd ∧
    (runMicroOp limit op s).busy = s.busy := by
  by_cases hw : op = .wscl
  · subst hw
    rw [runMicroOp_wscl_high (hpoll rfl)]
    exact ⟨rfl, rfl, rfl⟩
  · obtain ⟨-, hbusy, hcmd, hupc, -⟩ | ⟨hwscl, -⟩ | ⟨hend | hwscl, -⟩ := runMicroOp_sequencer limit op s
    · exact ⟨hupc, hcmd, hbusy⟩
    · exact absurd hwscl hw
    · exact absurd hend hne
    · exact absurd hwscl hw

/-- Settles O14: a low poll is the exception it names, and `runMicroOp_goes_on` is the rest. -/
theorem microOpAdvancesByOne : Obligations.MicroOpAdvancesByOne := by
  unfold Obligations.MicroOpAdvancesByOne
  intro limit s t op habout hne hstep
  obtain rfl : runMicroOp limit op s.atTurn = t := by simpa [stepWith_aboutTo habout] using hstep
  by_cases hlow : op = .wscl ∧ s.scl = false
  · exact .inr hlow
  · left
    have hpoll : op = .wscl → s.atTurn.scl = true := fun hw => by simpa [hw] using hlow
    obtain ⟨hupc, hcmd, hbusy⟩ := runMicroOp_goes_on hne hpoll limit
    exact ⟨by rw [hupc, atTurn_upc], by rw [hcmd, atTurn_cmd], by rw [hbusy, atTurn_busy, aboutTo_busy habout]⟩

end Sys2Proof.Machine
end

section
/-! Proofs of the statements of 41_conditions.md: START and STOP from issue to END (R85, R86), one after the other, and the
conditions they and PROBE make on the wire (R11, R92). The run of a command through undisturbed Controller turns is stated for every
micro-program. -/

namespace Sys2Proof.Machine

/-! ### A micro-op that goes on -/

/-- What a micro-op other than END does where a poll, if it is one, reads SCL = 1 (R74 to R79). -/
def State.goOn (s : State) (op : MicroOp) : State :=
  { s with
    sclO := (sclDrive op).getD s.sclO
    sdaO := (sdaDrive s.txl op).getD s.sdaO
    nack := if op = .aks then s.sda else s.nack
    sh := if op = .rxs then shiftIn s.sh s.sda else s.sh
    stallCnt := if op = .wscl then 0 else s.stallCnt
    upc := s.upc + 1 }

theorem runMicroOp_eq_goOn {op : MicroOp} {s : State} (hne : op ≠ .finish) (hpoll : op = .wscl → s.scl = true)
    (limit : Option Nat) : runMicroOp limit op s = s.goOn op := by
  cases op with
  | finish => exact absurd rfl hne
  | wscl => rw [runMicroOp_wscl_high (hpoll rfl)]; rfl
  | aks => rw [runMicroOp_aks]; rfl
  | sda | sdab | scl0 | scl1 | dly | rxs => rfl

theorem goOn_of_no_sample {op : MicroOp} (hrxs : .rxs ≠ op) (haks : .aks ≠ op) {s : State} (hstall : s.stallCnt = 0) :
    s.goOn op = { s with
      sclO := (sclDrive op).getD s.sclO, sdaO := (sdaDrive s.txl op).getD s.sdaO, upc := s.upc + 1 } := by
  simp [State.goOn, hrxs.symm, haks.symm, hstall]

/-- Micro-ops that take no sample, gone through, leave each line at its last drive and move the micro-pc, and do no more. -/
theorem foldl_goOn_of_no_sample {ops : List MicroOp} (hrxs : .rxs ∉ ops) (haks : .aks ∉ ops) {s : State} (hstall : s.stallCnt = 0) :
    ops.foldl State.goOn s = { s with
      sclO := (lastDrive sclDrive ops).getD s.sclO
      sdaO := (lastDrive (sdaDrive s.txl) ops).getD s.sdaO
      upc := s.upc + ops.length } := by
  induction ops generalizing s with
  | nil => rfl
  | cons op ops ih =>
    obtain ⟨hrxs_op, hrxs⟩ := List.ne_and_not_mem_of_not_mem_cons hrxs
    obtain ⟨haks_op, haks⟩ := List.ne_and_not_mem_of_not_mem_cons haks
    have hnext : (s.goOn op).stallCnt = 0 := by rw [goOn_of_no_sample hrxs_op haks_op hstall, hstall]
    rw [List.foldl_cons, ih hrxs haks hnext, goOn_of_no_sample hrxs_op haks_op hstall]
    simp [lastDrive, Option.getD_or, Nat.add_assoc, Nat.add_comm 1]

theorem foldl_goOn_sequencer (ops : List MicroOp) (s : State) :
    (ops.foldl State.goOn s).busy = s.busy ∧ (ops.foldl State.goOn s).cmd = s.cmd ∧
    (ops.foldl State.goOn s).upc = s.upc + ops.length := by
  induction ops generalizing s with
  | nil => exact ⟨rfl, rfl, rfl⟩
  | cons op ops ih =>
    obtain ⟨hbusy, hcmd, hupc⟩ := ih (s.goOn op)
    exact ⟨hbusy, hcmd, hupc.trans (Nat.add_right_comm s.upc 1 ops.length)⟩

/-- The END drives neither line. -/
theorem lastDrive_dropLast_program {drive : MicroOp → Option Bit} (hend : drive .finish = none) (c : Instr) :
    lastDrive drive (program c).dropLast = lastDrive drive (program c) := by
  conv_rhs => rw [program_eq_concat_finish c, lastDrive_concat, hend, Option.none_or]

/-! ### A micro-program through undisturbed Controller turns -/

/-- The first of the Controller's turns executes the micro-op at upc. -/
theorem stepWith_withControllerTurns {s : State} {op : MicroOp} (hbusy : s.busy = true) (hop : s.microOp? = some op)
    (limit : Option Nat) (n : Nat) :
    stepWith limit (s.withControllerTurns (n + 1)) = .next (runMicroOp limit op (s.withControllerTurns n)) := by
  rw [stepWith_aboutTo (aboutTo_withControllerTurns n hbusy hop), atTurn_withControllerTurns]

/-- While the Peer releases the clock, the Controller goes on through the micro-ops before the END one a turn: at every poll SCL = 1,
by `sclO_of_wscl`. -/
theorem runWith_goOn {limit : Option Nat} (hlimit : LimitLegal limit) {c : Instr} {ops rest : List MicroOp} {s : State}
    (hinv : s.Inv limit) (hcmd : s.cmd = some c) (hscl : s.pScl = true) (hops : (program c).drop s.upc = ops ++ rest)
    (hfinish : .finish ∉ ops) (n : Nat) :
    runWith limit ops.length (s.withControllerTurns (ops.length + n)) = .next ((ops.foldl State.goOn s).withControllerTurns n) := by
  induction ops generalizing s with
  | nil => simp [runWith_zero]
  | cons op ops ih =>
    obtain ⟨hne, hfinish⟩ := List.ne_and_not_mem_of_not_mem_cons hfinish
    have hop : s.microOp? = some op := by rw [microOp?_of_cmd hcmd, ← List.head?_drop, hops]; rfl
    have ⟨⟨hbusy, _⟩, hlines, _⟩ := hinv
    have hpoll : op = .wscl → s.scl = true := fun hw => by
      rw [State.scl, sclO_of_wscl hlines (hw ▸ hop), hscl, Bool.and_self]
    have hstep : stepWith limit (s.withControllerTurns (ops.length + n + 1)) =
        .next ((s.goOn op).withControllerTurns (ops.length + n)) := by
      rw [stepWith_withControllerTurns (by rw [hbusy, hcmd]; rfl) hop,
        runMicroOp_eq_goOn (s := s.withControllerTurns (ops.length + n)) hne.symm hpoll]
      rfl
    have hnext : (s.goOn op).Inv limit := by
      rw [← runMicroOp_eq_goOn hne.symm hpoll limit]
      exact inv_runMicroOp hlimit hinv hop
    rw [List.length_cons, Nat.add_right_comm, runWith_succ _ hstep, List.foldl_cons]
    exact ih hnext hcmd hscl (by rw [State.goOn, ← List.tail_drop, hops]; rfl) hfinish

/-- A command issued while idle, through as many Controller turns as its micro-program is long: it goes on up to its END, and the
END ends it. -/
theorem run_issue {s : State} (hidle : s.busy = false) (hscl : s.pScl = true) (c : Instr) (o : Option Byte) :
    run (program c).length ((s.issue c o).withControllerTurns (program c).length) =
      .next (microEnd ((program c).dropLast.foldl State.goOn (s.issue c o))) := by
  have hissue : s.issue c o = _ := issue_idle hidle c o
  have hgoOn := runWith_goOn config_limitLegal (rest := [.finish]) (n := 1)
    (inv_issue config_limitLegal hidle c o) (by rw [hissue]) (by simpa using hscl)
    (by rw [hissue]; exact program_eq_concat_finish c) (finish_not_mem_dropLast c)
  have hlength : (program c).dropLast.length + 1 = (program c).length := by
    rw [List.length_dropLast, Nat.sub_add_cancel (program_pos c)]
  obtain ⟨hbusy, hcmd, hupc⟩ := foldl_goOn_sequencer (program c).dropLast (s.issue c o)
  have hfinish : ((program c).dropLast.foldl State.goOn (s.issue c o)).microOp? = some .finish := by
    rw [microOp?_of_cmd (hcmd.trans (by rw [hissue])), hupc, hissue, Nat.zero_add, List.length_dropLast, program_last]
  rw [run, ← hlength, runWith_add _ _ hgoOn,
    runWith_succ 0 (stepWith_withControllerTurns (hbusy.trans (by rw [hissue])) hfinish _ 0)]
  rfl

/-- So a command that takes no sample leaves each line at the last level its micro-program drives, and everything else as the issue
and the END have it. -/
theorem run_issue_of_no_sample {s : State} (hidle : s.busy = false) (hscl : s.pScl = true) {c : Instr} (hrxs : .rxs ∉ program c)
    (haks : .aks ∉ program c) (o : Option Byte) :
    run (program c).length ((s.issue c o).withControllerTurns (program c).length) = .next { s with
      sclO := (lastDrive sclDrive (program c)).getD s.sclO
      sdaO := (lastDrive (sdaDrive (o.getD s.txl)) (program c)).getD s.sdaO
      txl := o.getD s.txl, sh := 0x00#8, stallCnt := 0, cmd := none, busy := false, upc := 0 } := by
  have hread : some c ≠ some .read := by rintro ⟨⟩; exact hrxs (by decide)
  have hprobe : some c ≠ some .probe := by rintro ⟨⟩; exact haks (by decide)
  rw [run_issue hidle hscl, issue_idle hidle, foldl_goOn_of_no_sample (fun h => hrxs (List.dropLast_subset _ h))
    (fun h => haks (List.dropLast_subset _ h)) rfl, microEnd_of_no_result hread hprobe]
  rw [lastDrive_dropLast_program rfl, lastDrive_dropLast_program rfl]

/-! ### START and STOP from issue to END -/

/-- Settles O30: START takes no sample, and its last levels are (0, 0). -/
theorem startCompletes : Obligations.StartCompletes := by
  unfold Obligations.StartCompletes
  intro s hidle hscl
  exact ⟨_, exec_eq_issue .start s, run_issue_of_no_sample hidle hscl (c := .start) (by decide) (by decide) _⟩

/-- Settles O31: STOP takes no sample, and its last levels are (1, 1). -/
theorem stopCompletes : Obligations.StopCompletes := by
  unfold Obligations.StopCompletes
  intro s hidle hscl
  exact ⟨_, exec_eq_issue .stop s, run_issue_of_no_sample hidle hscl (c := .stop) (by decide) (by decide) _⟩

/-- Settles O38: START ends idle with the Peer as it was (O30), and STOP from there ends with both outputs high (O31). -/
theorem startThenStopLeavesBusIdle : Obligations.StartThenStopLeavesBusIdle := by
  unfold Obligations.StartThenStopLeavesBusIdle
  intro s hidle hscl hsda
  obtain ⟨t, hstart, hactive⟩ := startCompletes s hidle hscl
  obtain ⟨u, hactive, huidle, huscl, husda⟩ :
      ∃ u, run 8 (t.withControllerTurns 8) = .next u ∧ u.busy = false ∧ u.pScl = true ∧ u.pSda = true :=
    ⟨_, hactive, rfl, hscl, hsda⟩
  obtain ⟨v, hstop, hended⟩ := stopCompletes u huidle huscl
  exact ⟨t, u, v, _, hstart, hactive, hstop, hended, by simp [State.scl, huscl], by simp [State.sda, husda], rfl⟩

/-! ### The conditions on the wire -/

/-- With the Peer releasing both lines, a command at a micro-op that turns SDA over while SCL is high turns it over on the wire:
`k` is that micro-op's index, and the levels before it are the last ones driven (R11, R16). -/
theorem step_turns_sda_over {s : State} (hinv : s.Inv Config.stretchLimit) (hscl : s.pScl = true) (hsda : s.pSda = true)
    (hturn : s.nextTurn.1 = .controller) {c : Instr} {k : Nat} (v : Bit) (hcmd : s.cmd = some c) (hupc : s.upc = k)
    (hop : (program c)[k]? = some (.sda v)) (hhigh : lastDrive sclDrive ((program c).take k) = some true)
    (hbefore : lastDrive (sdaDrive s.txl) ((program c).take k) = some (!v)) :
    ∃ t, step s = .next t ∧ s.scl = true ∧ t.scl = true ∧ s.sda = !v ∧ t.sda = v := by
  obtain ⟨⟨hbusy, -, -⟩, ⟨hsclO, hsdaO⟩, -⟩ := hinv
  have hexecuted : s.executed = (program c).take k := by simp [State.executed, hcmd, hupc]
  rw [hexecuted] at hsclO hsdaO
  have hsclO : s.sclO = true := hsclO true hhigh
  have hsdaO : s.sdaO = !v := hsdaO (!v) hbefore
  refine ⟨_, step_aboutTo (aboutTo_of_cmd hturn (by rw [hbusy, hcmd]; rfl) hcmd (hupc ▸ hop)), ?_⟩
  simp [runMicroOp_sda, State.scl, State.sda, hsclO, hsdaO, hscl, hsda]

/-- Settles O48: at micro-op 4 of START and PROBE SDA falls, at micro-op 4 of STOP and 68 of PROBE it rises, SCL being high. -/
theorem conditionsOnTheWire : Obligations.ConditionsOnTheWire := by
  unfold Obligations.ConditionsOnTheWire
  intro s hinv hscl hsda hturn
  constructor
  · intro hcmd hupc
    obtain ⟨t, hstep, hhigh, hstill, hbefore, hafter⟩ :
        ∃ t, step s = .next t ∧ s.scl = true ∧ t.scl = true ∧ s.sda = true ∧ t.sda = false := by
      obtain hcmd | hcmd := hcmd
      · exact step_turns_sda_over hinv hscl hsda hturn false hcmd hupc rfl rfl rfl
      · exact step_turns_sda_over hinv hscl hsda hturn false hcmd hupc rfl rfl rfl
    exact ⟨t, hstep, by simp [startCondition, hhigh, hstill, hbefore, hafter]⟩
  · intro hat
    obtain ⟨t, hstep, hhigh, hstill, hbefore, hafter⟩ :
        ∃ t, step s = .next t ∧ s.scl = true ∧ t.scl = true ∧ s.sda = false ∧ t.sda = true := by
      obtain ⟨hcmd, hupc⟩ | ⟨hcmd, hupc⟩ := hat
      · exact step_turns_sda_over hinv hscl hsda hturn true hcmd hupc rfl rfl rfl
      · exact step_turns_sda_over hinv hscl hsda hturn true hcmd hupc rfl rfl rfl
    exact ⟨t, hstep, by simp [stopCondition, hhigh, hstill, hbefore, hafter]⟩

end Sys2Proof.Machine
end

section
/-! Proofs of the statements of 42_byte_transfer.md: the levels on the wire in SEND, READ, the acknowledge bits and PROBE (R87 to R92),
what SEND and READ do from issue to END, the byte READ assembles from its samples (R88), and the round trip of a byte. -/

namespace Sys2Proof.Machine

/-! ### A line between two drives -/

/-- The micro-op at `lo` drives level `v` on a line, and no later one before `hi` drives that line. -/
abbrev HeldFrom (drive : MicroOp → Option Bit) (p : List MicroOp) (lo hi : Nat) (v : Bit) : Prop :=
  p[lo]?.bind drive = some v ∧ lastDrive drive ((p.take hi).drop (lo + 1)) = none

theorem lastDrive_eq_none_of_isPrefix {drive : MicroOp → Option Bit} {l m : List MicroOp} (h : l <+: m)
    (hm : lastDrive drive m = none) : lastDrive drive l = none := by
  obtain ⟨rest, rfl⟩ := h
  rw [lastDrive_append] at hm
  exact (Option.or_eq_none_iff.mp hm).2

/-- While a level is held it is the last one driven. -/
theorem lastDrive_of_heldFrom {drive : MicroOp → Option Bit} {p : List MicroOp} {lo k hi : Nat} {v : Bit}
    (h : HeldFrom drive p lo hi v) (hlo : lo < k) (hhi : k ≤ hi) : lastDrive drive (p.take k) = some v := by
  obtain ⟨hdrive, hheld⟩ := h
  obtain ⟨op, hop, hv⟩ := Option.bind_eq_some_iff.mp hdrive
  have hsplit : p.take k = (p.take lo ++ [op]) ++ (p.take k).drop (lo + 1) := by
    conv_lhs => rw [← List.take_append_drop (lo + 1) (p.take k), List.take_take, Nat.min_eq_left hlo, List.take_add_one, hop]
    rfl
  have hlater : lastDrive drive ((p.take k).drop (lo + 1)) = none :=
    lastDrive_eq_none_of_isPrefix ((List.take_prefix_take_left hhi).drop _) hheld
  rw [hsplit, lastDrive_append, hlater, Option.none_or, lastDrive_concat, hv, Option.some_or]

/-! ### A running command -/

theorem busy_of_running {s : State} {c : Instr} (hs : s.SequencerWf) (hcmd : s.cmd = some c) : s.busy = true := by
  obtain ⟨hbusy, -⟩ := hs
  rw [hbusy, hcmd]; rfl

section Held

variable {limit : Option Nat} {s : State} {c : Instr} {lo hi : Nat} {v : Bit}

theorem executed_of_cmd (hcmd : s.cmd = some c) : s.executed = (program c).take s.upc := by simp [State.executed, hcmd]

theorem sclO_of_heldFrom (hs : s.Inv limit) (hcmd : s.cmd = some c) (h : HeldFrom sclDrive (program c) lo hi v)
    (hlo : lo < s.upc) (hhi : s.upc ≤ hi) : s.sclO = v := by
  obtain ⟨-, ⟨hscl, -⟩, -⟩ := hs
  exact hscl v (by rw [executed_of_cmd hcmd]; exact lastDrive_of_heldFrom h hlo hhi)

theorem sdaO_of_heldFrom (hs : s.Inv limit) (hcmd : s.cmd = some c) (h : HeldFrom (sdaDrive s.txl) (program c) lo hi v)
    (hlo : lo < s.upc) (hhi : s.upc ≤ hi) : s.sdaO = v := by
  obtain ⟨-, ⟨-, hsda⟩, -⟩ := hs
  exact hsda v (by rw [executed_of_cmd hcmd]; exact lastDrive_of_heldFrom h hlo hhi)

/-- A clock pulse: raised at `lo`, lowered at `mid`. -/
theorem sclO_of_pulse {mid : Nat} (hs : s.Inv limit) (hcmd : s.cmd = some c) (hhigh : HeldFrom sclDrive (program c) lo mid true)
    (hlow : HeldFrom sclDrive (program c) mid hi false) (hlo : lo < s.upc) (hhi : s.upc ≤ hi) : s.sclO = decide (s.upc ≤ mid) := by
  by_cases hmid : s.upc ≤ mid
  · rw [sclO_of_heldFrom hs hcmd hhigh hlo hmid, decide_eq_true hmid]
  · rw [sclO_of_heldFrom hs hcmd hlow (Nat.lt_of_not_le hmid) hhi, decide_eq_false hmid]

theorem upc_lt_of_inv (hs : s.Inv limit) (hcmd : s.cmd = some c) : s.upc < (program c).length := by
  obtain ⟨⟨-, hupc, -⟩, -⟩ := hs
  exact hupc c hcmd

end Held

/-- With sda_o = 1 the data line is at the Peer's level (R19). -/
theorem sda_of_released {s : State} (h : s.sdaO = true) : s.sda = s.pSda := by rw [State.sda, h, Bool.true_and]

/-- With sda_o = 0 the data line is low (R19). -/
theorem sda_of_pulled {s : State} (h : s.sdaO = false) : s.sda = false := by rw [State.sda, h, Bool.false_and]

/-! ### The bits of SEND and of PROBE's address byte -/

/-- In bit 7 - k of SEND the clock, raised at 6 k + 2, stays high until the SCL0 at 6 k + 5. -/
theorem heldFrom_scl_send : ∀ k < 8, HeldFrom sclDrive (program .send) (6 * k + 2) (6 * k + 5) true := by decide

/-- In PROBE's address byte likewise, after the seven micro-ops of START. -/
theorem heldFrom_scl_probe : ∀ k < 8, HeldFrom sclDrive (program .probe) (7 + 6 * k + 2) (7 + 6 * k + 5) true := by decide

/-- Bit 7 - k of SEND drives txl[7 - k] at 6 k, and holds it over the clock pulse. -/
theorem heldFrom_sda_send (txl : Byte) {k : Nat} (hk : k < 8) :
    HeldFrom (sdaDrive txl) (program .send) (6 * k) (6 * k + 5) (txl.getLsbD (7 - k)) := by
  interval_cases k <;> exact ⟨rfl, rfl⟩

theorem heldFrom_sda_probe (txl : Byte) {k : Nat} (hk : k < 8) :
    HeldFrom (sdaDrive txl) (program .probe) (7 + 6 * k) (7 + 6 * k + 5) (txl.getLsbD (7 - k)) := by
  interval_cases k <;> exact ⟨rfl, rfl⟩

/-- The lines while the clock is high for a bit whose first micro-op, at `base`, drives `v`. -/
theorem lines_of_bit {limit : Option Nat} {s : State} {c : Instr} {base r : Nat} {v : Bit} (hs : s.Inv limit) (hcmd : s.cmd = some c)
    (hclock : HeldFrom sclDrive (program c) (base + 2) (base + 5) true)
    (hdata : HeldFrom (sdaDrive s.txl) (program c) base (base + 5) v) (hlo : 3 ≤ r) (hhi : r ≤ 5) (hupc : s.upc = base + r) :
    s.sclO = true ∧ s.sda = (v && s.pSda) := by
  have hscl : s.sclO = true := sclO_of_heldFrom hs hcmd hclock (by omega) (by omega)
  have hsda : s.sdaO = v := sdaO_of_heldFrom hs hcmd hdata (by omega) (by omega)
  exact ⟨hscl, by rw [State.sda, hsda]⟩

/-- Settles O46: in each bit txl[7 - k] is driven first and the clock raised after it, and both levels are held (`lines_of_bit`). -/
theorem sendWireLevels : Obligations.SendWireLevels := by
  unfold Obligations.SendWireLevels
  rintro limit s k r hs hk hlo hhi (⟨hcmd, hupc⟩ | ⟨hcmd, hupc⟩)
  · exact lines_of_bit hs hcmd (heldFrom_scl_send k hk) (heldFrom_sda_send s.txl hk) hlo hhi hupc
  · exact lines_of_bit hs hcmd (heldFrom_scl_probe k hk) (heldFrom_sda_probe s.txl hk) hlo hhi hupc

/-! ### The ninth clock and the samples -/

section NinthClock

variable {limit : Option Nat} {s : State}

/-- From its first SDA drive on, ACK keeps SDA low. -/
theorem sda_of_ack (hs : s.Inv limit) (hcmd : s.cmd = some .ack) (hlo : 1 ≤ s.upc) : s.sda = false :=
  sda_of_pulled (sdaO_of_heldFrom (lo := 0) hs hcmd ⟨rfl, rfl⟩ hlo (upc_lt_of_inv hs hcmd).le)

/-- From their first SDA drive on, NACK and WAITACK leave SDA to the Peer. -/
theorem sda_of_nackc_or_waitack (hs : s.Inv limit) (hcmd : s.cmd = some .nackc ∨ s.cmd = some .waitack) (hlo : 1 ≤ s.upc) :
    s.sda = s.pSda := by
  apply sda_of_released
  obtain hcmd | hcmd := hcmd
  · exact sdaO_of_heldFrom (lo := 0) hs hcmd ⟨rfl, rfl⟩ hlo (upc_lt_of_inv hs hcmd).le
  · exact sdaO_of_heldFrom (lo := 0) hs hcmd ⟨rfl, rfl⟩ hlo (upc_lt_of_inv hs hcmd).le

/-- The clock pulse of ACK and NACK. -/
theorem sclO_of_ack_or_nackc (hs : s.Inv limit) (hcmd : s.cmd = some .ack ∨ s.cmd = some .nackc) (hlo : 3 ≤ s.upc) :
    s.sclO = decide (s.upc ≤ 5) := by
  obtain hcmd | hcmd := hcmd
  · exact sclO_of_pulse (lo := 2) hs hcmd ⟨rfl, rfl⟩ ⟨rfl, rfl⟩ hlo (upc_lt_of_inv hs hcmd).le
  · exact sclO_of_pulse (lo := 2) hs hcmd ⟨rfl, rfl⟩ ⟨rfl, rfl⟩ hlo (upc_lt_of_inv hs hcmd).le

/-- The clock pulse of WAITACK, one micro-op longer for the sample. -/
theorem sclO_of_waitack (hs : s.Inv limit) (hcmd : s.cmd = some .waitack) (hlo : 3 ≤ s.upc) : s.sclO = decide (s.upc ≤ 6) :=
  sclO_of_pulse (lo := 2) hs hcmd ⟨rfl, rfl⟩ ⟨rfl, rfl⟩ hlo (upc_lt_of_inv hs hcmd).le

/-- The clock pulse of READ's bit 7 - k. -/
theorem heldFrom_scl_read : ∀ k < 8, HeldFrom sclDrive (program .read) (6 * k) (6 * k + 4) true ∧
    HeldFrom sclDrive (program .read) (6 * k + 4) (6 * k + 6) false := by decide

theorem sclO_of_read {k r : Nat} (hs : s.Inv limit) (hk : k < 8) (hlo : 1 ≤ r) (hhi : r ≤ 5)
    (hcmd : s.cmd = some .read) (hupc : s.upc = 6 * k + r) : s.sclO = decide (r ≤ 4) := by
  obtain ⟨hhigh, hlow⟩ := heldFrom_scl_read k hk
  rw [sclO_of_pulse hs hcmd hhigh hlow (by omega) (by omega), hupc]
  simp only [Nat.add_le_add_iff_left]

/-- PROBE's ninth clock, from the WAITACK body at micro-op 56 to the SDA drive of its STOP body. -/
theorem lines_of_probe_ninth (hs : s.Inv limit) (hcmd : s.cmd = some .probe) (hlo : 59 ≤ s.upc)
    (hhi : s.upc ≤ 64) : s.sda = s.pSda ∧ s.sclO = decide (s.upc ≤ 62) :=
  ⟨sda_of_released (sdaO_of_heldFrom (lo := 56) hs hcmd ⟨rfl, rfl⟩ (by omega) hhi),
    sclO_of_pulse (lo := 58) hs hcmd ⟨rfl, rfl⟩ ⟨rfl, rfl⟩ hlo hhi⟩

/-- RXS stands in READ alone, fourth in each bit (R66, R78). -/
theorem rxs_place {c : Instr} {k : Nat} (h : (program c)[k]? = some .rxs) : c = .read ∧ ∃ j < 8, k = 6 * j + 3 := by
  obtain ⟨hk, -⟩ := List.getElem?_eq_some_iff.mp h
  have hplaces : ∀ k < (program c).length, (program c)[k]? = some .rxs → c = .read ∧ ∃ j < 8, k = 6 * j + 3 := by
    cases c <;> decide
  exact hplaces k hk h

/-- AKS stands in WAITACK and in PROBE's ninth clock alone (R66, R79). -/
theorem aks_place {c : Instr} {k : Nat} (h : (program c)[k]? = some .aks) : (c = .waitack ∧ k = 5) ∨ (c = .probe ∧ k = 61) := by
  obtain ⟨hk, -⟩ := List.getElem?_eq_some_iff.mp h
  have hplaces : ∀ k < (program c).length, (program c)[k]? = some .aks → (c = .waitack ∧ k = 5) ∨ (c = .probe ∧ k = 61) := by
    cases c <;> decide
  exact hplaces k hk h

theorem cmd_of_microOp? {op : MicroOp} (h : s.microOp? = some op) :
    ∃ c, s.cmd = some c ∧ (program c)[s.upc]? = some op := by
  cases hcmd : s.cmd with
  | none => simp [State.microOp?, hcmd] at h
  | some c => exact ⟨c, rfl, (microOp?_of_cmd hcmd).symm.trans h⟩

/-- The clock is high when READ samples. -/
theorem sclO_of_rxs (hs : s.Inv limit) (hop : s.microOp? = some .rxs) : s.sclO = true := by
  obtain ⟨c, hcmd, hat⟩ := cmd_of_microOp? hop
  obtain ⟨rfl, j, hj, hupc⟩ := rxs_place hat
  exact sclO_of_read hs hj (by omega) (by omega) hcmd hupc

/-- The clock is high, and the data line left to the Peer, when the acknowledge bit is sampled. -/
theorem lines_of_aks (hs : s.Inv limit) (hop : s.microOp? = some .aks) :
    s.sclO = true ∧ s.sda = s.pSda := by
  obtain ⟨c, hcmd, hat⟩ := cmd_of_microOp? hop
  obtain ⟨rfl, hupc⟩ | ⟨rfl, hupc⟩ := aks_place hat
  · exact ⟨by rw [sclO_of_waitack hs hcmd (by omega), hupc]; rfl, sda_of_nackc_or_waitack hs (.inr hcmd) (by omega)⟩
  · obtain ⟨hsda, hscl⟩ := lines_of_probe_ninth hs hcmd (by omega) (by omega)
    exact ⟨by rw [hscl, hupc]; rfl, hsda⟩

end NinthClock

/-- Settles O60: the lemmas above, command by command, and at the samples by the places of RXS and AKS. -/
theorem ninthClockAndSampleLevels : Obligations.NinthClockAndSampleLevels := by
  unfold Obligations.NinthClockAndSampleLevels
  intro limit s hs
  refine ⟨?sampleClock, ?ackSample, sda_of_ack hs, sda_of_nackc_or_waitack hs, sclO_of_ack_or_nackc hs, sclO_of_waitack hs,
    fun k r hk hlo hhi hcmd hupc => sclO_of_read hs hk hlo hhi hcmd hupc, lines_of_probe_ninth hs⟩
  case sampleClock =>
    rintro (hrxs | haks)
    · exact sclO_of_rxs hs (aboutTo_microOp hrxs)
    · exact (lines_of_aks hs (aboutTo_microOp haks)).1
  case ackSample =>
    intro haks
    exact (lines_of_aks hs (aboutTo_microOp haks)).2

/-! ### SEND makes no condition -/

/-- Each SDA drive of SEND but the first comes right after an SCL0. -/
theorem isChain_scl0_sda_send : (program .send).IsChain (fun a b => drivesSda b = true → a = .scl0) := by decide

theorem sdaDrive_eq_none {op : MicroOp} (h : drivesSda op = false) (txl : Byte) : sdaDrive txl op = none := by
  cases op with
  | sda v => cases h
  | sdab i => cases h
  | scl0 | scl1 | wscl | dly | rxs | aks | finish => rfl

/-- Wherever SEND drives SDA after its first micro-op, the clock is low. -/
theorem sclO_of_send_drives {limit : Option Nat} {s : State} {op : MicroOp} (hs : s.Inv limit) (hcmd : s.cmd = some .send)
    (hupc : s.upc ≠ 0) (hop : s.microOp? = some op) (hdrives : drivesSda op = true) : s.sclO = false := by
  obtain ⟨j, hj⟩ := Nat.exists_eq_succ_of_ne_zero hupc
  obtain ⟨hlt, rfl⟩ := List.getElem?_eq_some_iff.mp ((microOp?_of_cmd hcmd).symm.trans hop)
  have hscl0 : (program .send)[j] = .scl0 :=
    List.isChain_iff_getElem.mp isChain_scl0_sda_send j (by omega) (by simpa [hj] using hdrives)
  have hlow : HeldFrom sclDrive (program .send) j (j + 1) false := by
    constructor
    · rw [List.getElem?_eq_getElem (by omega), hscl0]; rfl
    · rw [List.drop_eq_nil_of_le (List.length_take_le _ _)]; rfl
  exact sclO_of_heldFrom hs hcmd hlow (by omega) (by omega)

/-- Settles O47: a Controller step of SEND leaves SDA as it was, or drives it while the clock is low. -/
theorem sendMakesNoCondition : Obligations.SendMakesNoCondition := by
  unfold Obligations.SendMakesNoCondition
  intro s t hs hcmd hentry hturn hstep
  have ⟨hseq, _⟩ := hs
  have hbusy : s.busy = true := busy_of_running hseq hcmd
  obtain ⟨op, hop⟩ := exists_microOp_of_busy hseq hbusy
  have habout : s.aboutTo op := aboutTo_of_cmd hturn hbusy hcmd ((microOp?_of_cmd hcmd).symm.trans hop)
  obtain rfl : runMicroOp Config.stretchLimit op s.atTurn = t := by simpa [step_aboutTo habout] using hstep
  cases hdrives : drivesSda op with
  | true =>
    have hlow : s.sclO = false := by
      by_cases hupc : s.upc = 0
      · exact hentry hupc
      · exact sclO_of_send_drives hs hcmd hupc hop hdrives
    simp [startCondition, stopCondition, State.scl, hlow]
  | false =>
    have hsda : (runMicroOp Config.stretchLimit op s.atTurn).sda = s.sda := by
      obtain ⟨-, hpSda, -⟩ := runMicroOp_frame Config.stretchLimit op s.atTurn
      simp [State.sda, runMicroOp_sdaO, sdaDrive_eq_none hdrives, hpSda]
    simp [startCondition, stopCondition, hsda]

/-! ### SEND from issue to END -/

/-- Settles O32: SEND takes no sample, latches TXDATA, and its last levels are (0, 1). -/
theorem sendCompletes : Obligations.SendCompletes := by
  unfold Obligations.SendCompletes
  intro s hidle hscl
  exact ⟨_, exec_eq_issue .send s, run_issue_of_no_sample hidle hscl (c := .send) (by decide) (by decide) _⟩

/-! ### The received byte -/

theorem getLsbD_shiftIn_zero (b : Byte) (x : Bit) : (shiftIn b x).getLsbD 0 = x := by simp [shiftIn]

theorem getLsbD_shiftIn_succ (b : Byte) (x : Bit) {i : Nat} (hi : i + 1 < 8) : (shiftIn b x).getLsbD (i + 1) = b.getLsbD i := by
  have hi7 : i < 7 := by omega
  simp [shiftIn, hi7]

/-- The accumulator holds the newest sample in bit 0, and what it held before moved up by as many bits as samples came (R78). -/
theorem getLsbD_foldl_shiftIn (l : List Bit) (b : Byte) {i : Nat} (hi : i < 8) :
    (l.foldl shiftIn b).getLsbD i = l.reverse[i]?.getD (b.getLsbD (i - l.length)) := by
  induction l using List.reverseRecOn generalizing i with
  | nil => rfl
  | append_singleton l x ih =>
    rw [List.foldl_concat, List.reverse_concat, List.length_append, List.length_singleton]
    cases i with
    | zero => exact getLsbD_shiftIn_zero _ x
    | succ i => rw [getLsbD_shiftIn_succ _ _ hi, ih (by omega), List.getElem?_cons_succ, Nat.add_sub_add_right]

/-- After eight samples the k-th stands in bit 7 - k, whatever the accumulator held before. -/
theorem getLsbD_foldl_shiftIn_eight {l : List Bit} (hl : l.length = 8) (b : Byte) {k : Nat} (hk : k < 8) :
    some ((l.foldl shiftIn b).getLsbD (7 - k)) = l[k]? := by
  rw [getLsbD_foldl_shiftIn l b (by omega), List.getElem?_reverse (by omega), hl, show 8 - 1 - (7 - k) = k by omega,
    List.getElem?_eq_getElem (by omega), Option.getD_some]

/-! ### READ under a constant SDA -/

theorem dropLast_program_read : (program .read).dropLast = (List.replicate 8 bitRx).flatten := rfl

/-- READ without its END is eight bits, and SDA does not change in between. -/
theorem foldl_goOn_read (s : State) : (program .read).dropLast.foldl State.goOn s =
    { s with sclO := false, sh := (List.replicate 8 s.sda).foldl shiftIn s.sh, stallCnt := 0, upc := s.upc + 48 } := by
  rw [dropLast_program_read, List.foldl_flatten]
  rfl

/-- Settles O33: the eight samples are the one SDA level, so the byte is all ones or all zeros. -/
theorem readCompletes : Obligations.ReadCompletes := by
  unfold Obligations.ReadCompletes
  intro s hidle hscl
  refine ⟨_, exec_eq_issue .read s, (run_issue hidle hscl .read _).trans ?_⟩
  have hbyte : (List.replicate 8 (s.sdaO && s.pSda)).foldl shiftIn 0x00#8 = if s.sdaO && s.pSda then 0xFF#8 else 0x00#8 := by
    cases s.sdaO && s.pSda <;> rfl
  rw [issue_idle hidle, foldl_goOn_read, microEnd_read rfl, ← hbyte]
  rfl

/-! ### A step while a command runs -/

/-- RXS alone writes the accumulator (R78). -/
theorem runMicroOp_sh (limit : Option Nat) (op : MicroOp) (s : State) :
    (runMicroOp limit op s).sh = if op = .rxs then shiftIn s.sh s.sda else s.sh := by
  cases op with
  | wscl =>
    simp only [runMicroOp]
    obtain ⟨-, h⟩ | ⟨-, -, h⟩ | ⟨-, n, -, -, h⟩ | ⟨-, n, -, -, h⟩ := microWscl_cases limit s <;> rw [h] <;> simp
  | finish => simp only [runMicroOp, microEnd, State.commit]; split <;> simp
  | aks => rw [runMicroOp_aks]; rfl
  | sda | sdab | scl0 | scl1 | dly | rxs => rfl

/-- A step while a command runs executes its micro-op, or resets the block, or is no turn of the Controller and leaves the Controller's
part alone, the accumulator with it. -/
theorem stepWith_busy {limit : Option Nat} {s t : State} (hbusy : s.busy = true) (h : stepWith limit s = .next t) :
    (∃ op, s.aboutTo op ∧ t = runMicroOp limit op s.atTurn) ∨
    (s.hostNext .reset ∧ t = s.atHostOp.resetBlock) ∨
    (s.nextTurn.1 ≠ .controller ∧ KeepsController s t ∧ t.sh = s.sh) := by
  obtain hmicro | ⟨op, hnext, hop⟩ | ⟨a, b, hpeer, rfl⟩ | ⟨⟨-, hidle⟩ | ⟨hhost, -⟩, rfl⟩ := stepWith_next h
  · exact .inl hmicro
  · obtain ⟨rfl, rfl⟩ | ⟨hidle, -⟩ | hkeep := hostOp_next hop
    · exact .inr (.inl ⟨hnext, rfl⟩)
    · simp [hbusy] at hidle
    · obtain ⟨hscl, hsda, -, -, hbusy, hcmd, hupc, htxl, hsh, hstall, hnack, hpres, hrx⟩ := hkeep
      refine .inr (.inr ⟨by simp [hostNext_turn hnext], ?_, by simpa using hsh⟩)
      constructor <;> simp [*]
  · exact .inr (.inr ⟨by simp [hpeer], keepsController_movePeer s a b, by simp⟩)
  · simp [hbusy] at hidle
  · exact .inr (.inr ⟨by simp [hhost], keepsController_atTurn s, by simp⟩)

/-! ### READ with SDA pulled low by the Controller -/

theorem shiftIn_zero_low : shiftIn 0x00#8 false = 0x00#8 := rfl

/-- A micro-op is END, or leaves its command running, or is a low poll that aborts it (R80, R82, R97). -/
theorem runMicroOp_keeps_or_ends (limit : Option Nat) (op : MicroOp) (s : State) :
    op = .finish ∨ (op ≠ .finish ∧ (runMicroOp limit op s).cmd = s.cmd) ∨
    (op = .wscl ∧ s.scl = false ∧ runMicroOp limit op s = s.raiseEvent .stretchTimeout) := by
  by_cases hfinish : op = .finish
  · exact .inl hfinish
  by_cases hlow : op = .wscl ∧ s.scl = false
  · obtain ⟨rfl, hscl⟩ := hlow
    obtain ⟨hhigh, -⟩ | ⟨-, -, hhold⟩ | ⟨-, n, -, -, hhold⟩ | ⟨-, n, -, -, habort⟩ := microWscl_cases limit s
    · simp [hscl] at hhigh
    · exact .inr (.inl ⟨hfinish, by rw [runMicroOp, hhold, countLowPoll_cmd]⟩)
    · exact .inr (.inl ⟨hfinish, by rw [runMicroOp, hhold, countLowPoll_cmd]⟩)
    · exact .inr (.inr ⟨rfl, hscl, habort⟩)
  · obtain ⟨-, hcmd, -⟩ := runMicroOp_goes_on hfinish (fun hw => by simpa [hw] using hlow) limit
    exact .inr (.inl ⟨hfinish, hcmd⟩)

theorem runMicroOp_rxdata {op : MicroOp} (hne : op ≠ .finish) (limit : Option Nat) (s : State) :
    (runMicroOp limit op s).rxdata = s.rxdata := by
  by_contra hchanged
  obtain ⟨hfinish, -⟩ := (runMicroOp_results limit op s).2 hchanged
  exact hne hfinish

/-- Settles O50: READ drives no data level, so sda_o stays 0 and every sample is 0; an END commits the accumulator, 0. -/
theorem readAfterDriveLowReadsZero : Obligations.ReadAfterDriveLowReadsZero := by
  unfold Obligations.ReadAfterDriveLowReadsZero
  intro s t hs hcmd hsda hsh hstep
  obtain ⟨op, habout, rfl⟩ | ⟨hreset, rfl⟩ | ⟨-, hkeep, hsame⟩ := stepWith_busy (busy_of_running hs hcmd) hstep
  · have hmem : op ∈ program .read := List.mem_of_getElem? ((microOp?_of_cmd hcmd).symm.trans (aboutTo_microOp habout))
    have htsda : (runMicroOp Config.stretchLimit op s.atTurn).sdaO = false := by
      rw [runMicroOp_sdaO, sdaDrive_read _ hmem, Option.getD_none, atTurn_sdaO, hsda]
    have htsh : (runMicroOp Config.stretchLimit op s.atTurn).sh = 0x00#8 := by
      rw [runMicroOp_sh, atTurn_sda, sda_of_pulled hsda, atTurn_sh, hsh, shiftIn_zero_low, ite_self]
    obtain rfl | ⟨hne, hkeeps⟩ | ⟨rfl, hlow, habort⟩ := runMicroOp_keeps_or_ends Config.stretchLimit op s.atTurn
    · have hend : runMicroOp Config.stretchLimit .finish s.atTurn = _ := microEnd_read (by simpa using hcmd)
      exact .inr (.inl ⟨by rw [hend], by rw [hend], by rw [hend, atTurn_sh, hsh], .inl habout⟩)
    · exact .inl ⟨by rw [hkeeps, atTurn_cmd, hcmd], htsda, htsh, by rw [runMicroOp_rxdata hne, atTurn_rxdata]⟩
    · exact .inr (.inr (by simpa [habort, habout] using hlow))
  · exact .inr (.inl ⟨rfl, rfl, rfl, .inr hreset⟩)
  · exact .inl ⟨hkeep.cmd.trans hcmd, hkeep.sdaO.trans hsda, hsame.trans hsh, hkeep.rxdata⟩

/-! ### The samples of READ -/

/-- The sample the next step takes, if it takes one. -/
def State.nextSample (s : State) : List Bit := if s.aboutTo .rxs then [s.sda] else []

theorem samples_succ {n : Nat} {s t : State} (h : step s = .next t) : samples (n + 1) s = s.nextSample ++ samples n t := by
  simp [samples, h, State.nextSample]

theorem aboutTo_unique {s : State} {op op' : MicroOp} (h : s.aboutTo op) (h' : s.aboutTo op') : op = op' :=
  Option.some.inj ((aboutTo_microOp h).symm.trans (aboutTo_microOp h'))

theorem nextSample_of_aboutTo {s : State} {op : MicroOp} (h : s.aboutTo op) :
    s.nextSample = if op = .rxs then [s.sda] else [] := by
  by_cases hrxs : op = .rxs
  · rw [State.nextSample, if_pos (hrxs ▸ h), if_pos hrxs]
  · rw [State.nextSample, if_neg (fun h' => hrxs (aboutTo_unique h h')), if_neg hrxs]

/-- A step after which a command still runs shifts the sample it takes, if it takes one, into the accumulator, and leaves one RXS more
executed then. -/
theorem step_shifts_sample {c : Instr} {s t : State} (hbusy : s.busy = true) (h : step s = .next t) (hafter : t.cmd = some c) :
    t.busy = true ∧ t.sh = s.nextSample.foldl shiftIn s.sh ∧
    t.executed.count .rxs = s.executed.count .rxs + s.nextSample.length := by
  obtain ⟨op, habout, rfl⟩ | ⟨-, rfl⟩ | ⟨hturn, hkeep, hsame⟩ := stepWith_busy hbusy h
  · have hsample := nextSample_of_aboutTo habout
    have hsh : (runMicroOp Config.stretchLimit op s.atTurn).sh = s.nextSample.foldl shiftIn s.sh := by
      rw [runMicroOp_sh, hsample, atTurn_sda, atTurn_sh]
      split <;> rfl
    obtain ⟨-, hbusy', hcmd', hupc', -⟩ | ⟨rfl, -, hhold⟩ | ⟨-, -, hnone, -⟩ :=
      runMicroOp_sequencer Config.stretchLimit op s.atTurn
    · refine ⟨by rw [hbusy', atTurn_busy, hbusy], hsh, ?_⟩
      rw [executed_succ (aboutTo_microOp habout) (hcmd'.trans (atTurn_cmd s)) (by rw [hupc', atTurn_upc]), List.count_append, hsample]
      by_cases hrxs : op = .rxs <;> simp [hrxs]
    · refine ⟨by rw [hhold, countLowPoll_busy, atTurn_busy, hbusy], hsh, ?_⟩
      rw [hhold, hsample]; simp [State.executed]
    · simp [hnone] at hafter
  · cases hafter
  · have hnone : s.nextSample = [] := if_neg fun hrxs => hturn (aboutTo_turn hrxs)
    have hexecuted : t.executed = s.executed := by simp [State.executed, hkeep.cmd, hkeep.upc]
    rw [hnone, hexecuted]
    exact ⟨hkeep.busy.trans hbusy, hsame, rfl⟩

/-- Any run through which a command keeps running shifts its samples in, in order, and executes as many RXS as it takes samples. -/
theorem run_shifts_samples {c : Instr} {n : Nat} {s t : State} (hbusy : s.busy = true) (hcmd : s.cmd = some c)
    (hkeeps : keepsRunning c n s = true) (h : run n s = .next t) :
    t.cmd = some c ∧ t.sh = (samples n s).foldl shiftIn s.sh ∧
    t.executed.count .rxs = s.executed.count .rxs + (samples n s).length := by
  induction n generalizing s with
  | zero => cases h; exact ⟨hcmd, rfl, rfl⟩
  | succ n ih =>
    obtain ⟨u, hstep, hrun⟩ := runWith_succ_next h
    rw [keepsRunning_succ hstep, Bool.and_eq_true, beq_iff_eq] at hkeeps
    obtain ⟨hu, hkeeps⟩ := hkeeps
    obtain ⟨hubusy, hush, hucount⟩ := step_shifts_sample hbusy hstep hu
    obtain ⟨htcmd, htsh, htcount⟩ := ih hubusy hu hkeeps hrun
    rw [samples_succ hstep, List.foldl_append, List.length_append]
    exact ⟨htcmd, by rw [htsh, hush], by omega⟩

theorem executed_of_finish {s : State} {c : Instr} (hcmd : s.cmd = some c) (hop : s.microOp? = some .finish) :
    s.executed = (program c).dropLast := by
  rw [executed_of_cmd hcmd, take_eq_dropLast_of_finish ((microOp?_of_cmd hcmd).symm.trans hop)]

/-- Settles O49: at its END READ has executed eight RXS, so it has taken eight samples, and the accumulator holds them in order. -/
theorem readAssemblesByte : Obligations.ReadAssemblesByte := by
  unfold Obligations.ReadAssemblesByte
  intro n s t hs hcmd hupc hsh hkeeps hrun hfinish
  obtain ⟨htcmd, htsh, hcount⟩ := run_shifts_samples (busy_of_running hs hcmd) hcmd hkeeps hrun
  have hlength : (samples n s).length = 8 := by
    have hstart : s.executed = [] := by rw [executed_of_cmd hcmd, hupc, List.take_zero]
    rw [executed_of_finish htcmd (aboutTo_microOp hfinish), hstart, List.count_nil, Nat.zero_add] at hcount
    rw [← hcount]; rfl
  refine ⟨_, step_aboutTo hfinish, hlength, fun k hk => ?_⟩
  rw [runMicroOp, microEnd_read (by simpa using htcmd), atTurn_sh, htsh]
  exact getLsbD_foldl_shiftIn_eight hlength _ hk

/-! ### The levels SEND shows -/

theorem highLevels_succ {n : Nat} {s t : State} (h : step s = .next t) :
    highLevels (n + 1) s = (if s.aboutTo .wscl && s.scl then [s.sda] else []) ++ highLevels n t := by
  simp [highLevels, h]

theorem wscl_place_send : ∀ k < 50, (program .send)[k]? = some .wscl → k = 6 * (k / 6) + 3 ∧ k / 6 < 8 := by decide

theorem finish_place_send : ∀ k < 50, (program .send)[k]? = some .finish → k = 49 := by decide

/-- In undisturbed Controller turns SEND shows txl[7 - k / 6] AND p_sda at the poll with index k, and nothing in between. -/
theorem highLevels_send {m : Nat} {s : State} (hinv : s.Inv Config.stretchLimit) (hcmd : s.cmd = some .send) (hscl : s.pScl = true)
    (hm : s.upc + m ≤ 50) :
    highLevels m (s.withControllerTurns m) =
      ((List.range' s.upc m).filter fun k => (program .send)[k]? == some .wscl).map
        fun k => s.txl.getLsbD (7 - k / 6) && s.pSda := by
  induction m generalizing s with
  | zero => rfl
  | succ m ih =>
    have ⟨hseq, hlines, _⟩ := hinv
    have hbusy := busy_of_running hseq hcmd
    obtain ⟨op, hop⟩ := exists_microOp_of_busy hseq hbusy
    have hat : (program .send)[s.upc]? = some op := (microOp?_of_cmd hcmd).symm.trans hop
    have habout : (s.withControllerTurns (m + 1)).aboutTo op := aboutTo_withControllerTurns m hbusy hop
    have hrest : highLevels m (runMicroOp Config.stretchLimit op (s.withControllerTurns m)) =
        ((List.range' (s.upc + 1) m).filter fun k => (program .send)[k]? == some .wscl).map
          fun k => s.txl.getLsbD (7 - k / 6) && s.pSda := by
      by_cases hfinish : op = .finish
      · have hupc := finish_place_send s.upc (by omega) (hfinish ▸ hat)
        obtain rfl : m = 0 := by omega
        rfl
      · have hpoll : op = .wscl → s.scl = true := fun hw => by
          rw [State.scl, sclO_of_wscl hlines (hw ▸ hop), hscl, Bool.and_self]
        have hnext : (s.goOn op).Inv Config.stretchLimit :=
          runMicroOp_eq_goOn hfinish hpoll _ ▸ inv_runMicroOp config_limitLegal hinv hop
        rw [runMicroOp_eq_goOn (s := s.withControllerTurns m) hfinish hpoll]
        exact ih hnext hcmd hscl (by simp only [State.goOn]; omega)
    rw [highLevels_succ (stepWith_withControllerTurns hbusy hop _ m), hrest, List.range'_succ, List.filter_cons, hat]
    by_cases hwscl : op = .wscl
    · subst hwscl
      obtain ⟨hplace, hk⟩ := wscl_place_send s.upc (by omega) hat
      obtain ⟨hsclO, hsda⟩ := sendWireLevels _ s _ 3 hinv hk (by omega) (by omega) (.inl ⟨hcmd, hplace⟩)
      have hsda' : (s.withControllerTurns (m + 1)).sda = _ := hsda
      simp [habout, State.scl, hsclO, hscl, hsda']
    · have hnot : ¬ (s.withControllerTurns (m + 1)).aboutTo .wscl := fun h => hwscl (aboutTo_unique habout h)
      simp [hnot, hwscl]

/-- The bits of a byte, bit 7 first, shifted in give the byte. -/
theorem foldl_shiftIn_bits (b a : Byte) : ((List.range 8).map fun k => b.getLsbD (7 - k)).foldl shiftIn a = b := by
  apply BitVec.eq_of_getLsbD_eq
  intro i hi
  have hbit := getLsbD_foldl_shiftIn_eight (l := (List.range 8).map fun k => b.getLsbD (7 - k)) (by simp) a (k := 7 - i) (by omega)
  have hi7 : 7 - (7 - i) = i := by omega
  rw [List.getElem?_map, List.getElem?_range (by omega), hi7] at hbit
  exact Option.some.inj (hbit.trans (by simp [hi7]))

theorem highLevels_issue_send {s : State} (hidle : s.busy = false) (hscl : s.pScl = true) (hsda : s.pSda = true) (b : Byte) :
    highLevels 50 ((s.issue .send (some b)).withControllerTurns 50) = (List.range 8).map fun k => b.getLsbD (7 - k) := by
  have hissue : s.issue .send (some b) = _ := issue_idle hidle .send (some b)
  rw [highLevels_send (inv_issue config_limitLegal hidle _ _) (by rw [hissue]) (by simpa using hscl) (by rw [hissue]),
    hissue, hsda]
  simp only [Bool.and_true]
  rfl

/-! ### Replayed to READ -/

/-- Each level in turn: the Peer, releasing the clock, sets SDA to it, and the Controller takes the six turns of a bit. -/
def State.withReplay (levels : List Bit) (s : State) : State :=
  { s with schedule := (levels.flatMap fun x => Turn.peer true x :: List.replicate 6 Turn.controller) ++ s.schedule }

/-- What the six micro-ops of one bit of READ do, where the poll reads SCL = 1 (R88). -/
def State.readBit (s : State) : State :=
  { s with sclO := false, sh := shiftIn s.sh s.sda, stallCnt := 0, upc := s.upc + 6 }

theorem foldl_goOn_bitRx (s : State) : bitRx.foldl State.goOn s = s.readBit := rfl

theorem inv_runWith {limit : Option Nat} (hl : LimitLegal limit) {n : Nat} {s t : State} (hs : s.Inv limit)
    (h : runWith limit n s = .next t) : t.Inv limit := by
  induction n generalizing s with
  | zero => cases h; exact hs
  | succ n ih =>
    obtain ⟨u, hstep, hrun⟩ := runWith_succ_next h
    exact ih (inv_stepWith hl hs hstep) hrun

/-- One replayed level is read as one bit. -/
theorem run_replay_cons {x : Bit} {xs : List Bit} {rest : List MicroOp} {s : State} (hinv : s.Inv Config.stretchLimit)
    (hcmd : s.cmd = some .read) (hrest : (program .read).drop s.upc = bitRx ++ rest) :
    run 7 (s.withReplay (x :: xs)) = .next ((s.movePeer true x).readBit.withReplay xs) := by
  have hpeer : step (s.withReplay (x :: xs)) = .next (((s.movePeer true x).withReplay xs).withControllerTurns 6) := by
    rw [step, stepWith_peer (a := true) (b := x) rfl]
    simp [State.withReplay, State.withControllerTurns, State.movePeer, State.atTurn, State.nextTurn]
  rw [run, runWith_succ 6 hpeer]
  exact runWith_goOn config_limitLegal (ops := bitRx) (s := (s.movePeer true x).withReplay xs) hinv hcmd rfl hrest (by decide) 0

/-- READ at its first bit, as many levels replayed as bits are left, comes to its END with the levels shifted in. -/
theorem run_replay {levels : List Bit} {s : State} (hinv : s.Inv Config.stretchLimit) (hcmd : s.cmd = some .read)
    (hsda : s.sdaO = true) (hrest : (program .read).drop s.upc = (List.replicate levels.length bitRx).flatten ++ [.finish]) :
    ∃ t, run (7 * levels.length) (s.withReplay levels) = .next t ∧ t.schedule = s.schedule ∧ t.cmd = some .read ∧ t.busy = true ∧
      t.microOp? = some .finish ∧ t.sh = levels.foldl shiftIn s.sh := by
  induction levels generalizing s with
  | nil =>
    have ⟨hseq, _⟩ := hinv
    refine ⟨s, rfl, rfl, hcmd, busy_of_running hseq hcmd, ?_, rfl⟩
    rw [microOp?_of_cmd hcmd, ← List.head?_drop, hrest]
    rfl
  | cons x xs ih =>
    have hbit := run_replay_cons (x := x) (xs := xs) hinv hcmd hrest
    have hnext : ((s.movePeer true x).readBit).Inv Config.stretchLimit :=
      show ((s.movePeer true x).readBit.withReplay xs).Inv _ from
        inv_runWith config_limitLegal (s := s.withReplay (x :: xs)) hinv hbit
    have hdrop : (program .read).drop (s.upc + 6) = (List.replicate xs.length bitRx).flatten ++ [.finish] := by
      rw [← List.drop_drop, hrest]; rfl
    obtain ⟨t, hrun, hsched, htcmd, htbusy, htop, htsh⟩ := ih hnext hcmd hsda hdrop
    refine ⟨t, ?_, hsched, htcmd, htbusy, htop, ?_⟩
    · rw [List.length_cons, Nat.mul_succ, Nat.add_comm, run, runWith_add 7 _ hbit]
      exact hrun
    · have hsample : (s.movePeer true x).sda = x := sda_of_released (s := s.movePeer true x) hsda
      rw [htsh, State.readBit, hsample]; rfl

/-- A READ issued under the replay of eight levels ends with the byte of those levels. -/
theorem read_of_replay {s : State} (hidle : s.busy = false) (hsda : s.sdaO = true) {levels : List Bit} (hlength : levels.length = 8) :
    ∃ t, run 57 { s.issue .read none with
        schedule := (levels.flatMap fun x => Turn.peer true x :: List.replicate 6 Turn.controller) ++ [.controller] ++
          (s.issue .read none).schedule } = .next t ∧
      t.rxdata = levels.foldl shiftIn 0x00#8 ∧ t.busy = false := by
  have hissue : s.issue .read none = _ := issue_idle hidle .read none
  obtain ⟨t, hrun, hsched, hcmd, hbusy, hop, hsh⟩ := run_replay (levels := levels) (s := (s.issue .read none).withControllerTurns 1)
    (inv_issue config_limitLegal hidle _ _) (by rw [hissue]; rfl) (by rw [hissue]; exact hsda) (by rw [hissue, hlength]; rfl)
  have hturn : t.nextTurn.1 = .controller := by simp [State.nextTurn, hsched]
  have hend : step t = .next (microEnd t.atTurn) :=
    step_aboutTo (aboutTo_of_cmd hturn hbusy hcmd ((microOp?_of_cmd hcmd).symm.trans hop))
  rw [hlength] at hrun
  refine ⟨microEnd t.atTurn, ?_, ?_, rfl⟩
  · rw [List.append_assoc]
    exact (runWith_add 56 1 hrun).trans (runWith_succ 0 hend)
  · rw [microEnd_read (by simpa using hcmd), atTurn_sh, hsh, hissue]
    rfl

/-- Settles O51: SEND shows the bits of its byte, bit 7 first (`highLevels_issue_send`), and READ puts the levels replayed to it back
into their places (`read_of_replay`, `foldl_shiftIn_bits`). -/
theorem serializeDeserializeRoundTrip : Obligations.SerializeDeserializeRoundTrip := by
  unfold Obligations.SerializeDeserializeRoundTrip
  intro b s hidle hscl hsda
  obtain ⟨t, hsend, hrun⟩ := sendCompletes { s with txdata := b } hidle hscl
  obtain ⟨u, hrun, huidle, husda⟩ : ∃ u, run 50 (t.withControllerTurns 50) = .next u ∧ u.busy = false ∧ u.sdaO = true :=
    ⟨_, hrun, rfl, rfl⟩
  have hlevels : highLevels 50 (t.withControllerTurns 50) = (List.range 8).map fun k => b.getLsbD (7 - k) := by
    rw [← Host.Outcome.next.inj ((exec_eq_issue .send _).symm.trans hsend)]
    exact highLevels_issue_send (s := { s with txdata := b }) hidle hscl hsda b
  obtain ⟨w, hreplay, hrxdata, hwidle⟩ := read_of_replay huidle husda (congrArg List.length hlevels)
  refine ⟨t, u, _, w, hsend, hrun, exec_eq_issue .read u, hreplay, ?_, hwidle⟩
  rw [hrxdata, hlevels, foldl_shiftIn_bits]

end Sys2Proof.Machine
end

section
/-! Proofs of the statements of 43_acknowledge.md: WAITACK, ACK and NACK from issue to END (R89 to R91). -/

namespace Sys2Proof.Machine

/-- WAITACK without its END drives SDA high, so the sample it takes under the raised clock is the Peer's level (R89). -/
theorem foldl_goOn_waitack (s : State) : (program .waitack).dropLast.foldl State.goOn s =
    { s with sclO := false, sdaO := true, nack := s.pSda, stallCnt := 0, upc := s.upc + 8 } := rfl

/-- Settles O34: WAITACK samples the Peer's level, lowers the clock again, and its END commits nothing. -/
theorem waitackCompletes : Obligations.WaitackCompletes := by
  unfold Obligations.WaitackCompletes
  intro s hidle hscl
  refine ⟨_, exec_eq_issue .waitack s, (run_issue hidle hscl .waitack _).trans ?_⟩
  rw [issue_idle hidle, foldl_goOn_waitack, microEnd_of_no_result (by simp) (by simp)]
  rfl

/-- Settles O35: ACK takes no sample, and its last levels are (0, 0). -/
theorem ackCompletes : Obligations.AckCompletes := by
  unfold Obligations.AckCompletes
  intro s hidle hscl
  exact ⟨_, exec_eq_issue .ack s, run_issue_of_no_sample hidle hscl (c := .ack) (by decide) (by decide) _⟩

/-- Settles O36: NACK takes no sample, so the flag NACK stays, and its last levels are (0, 1). -/
theorem nackCompletes : Obligations.NackCompletes := by
  unfold Obligations.NackCompletes
  intro s hidle hscl
  exact ⟨_, exec_eq_issue .nackc s, run_issue_of_no_sample hidle hscl (c := .nackc) (by decide) (by decide) _⟩

end Sys2Proof.Machine
end

section
/-! Proof of the statement of 44_probe.md: PROBE from its issue to its END (R92). Its micro-program is START and SEND, which take no
sample, then WAITACK, which takes the one sample, then STOP (R66). -/

namespace Sys2Proof.Machine

theorem dropLast_program_probe :
    (program .probe).dropLast = (startBody ++ sendBody) ++ (program .waitack).dropLast ++ stopBody := rfl

/-- PROBE without its END: WAITACK's sample is the Peer's level whatever SEND drove before it, and STOP leaves both lines high. -/
theorem foldl_goOn_probe {s : State} (hstall : s.stallCnt = 0) : (program .probe).dropLast.foldl State.goOn s =
    { s with sclO := true, sdaO := true, nack := s.pSda, stallCnt := 0, upc := s.upc + 69 } := by
  rw [dropLast_program_probe, List.foldl_append, List.foldl_append,
    foldl_goOn_of_no_sample (ops := startBody ++ sendBody) (by decide) (by decide) hstall, foldl_goOn_waitack,
    foldl_goOn_of_no_sample (ops := stopBody) (by decide) (by decide) rfl]
  rfl

/-- PROBE's operand is the address shifted up over a 0, the WRITE direction bit (R62). -/
theorem probeOperand_eq_shiftLeft (s : State) : s.probeOperand = s.addr.setWidth 8 <<< 1 := by
  obtain ⟨hwrite, -⟩ := addressByte s.addr
  exact hwrite

/-- Settles O37: PROBE goes through START, SEND, WAITACK and STOP, and its END commits the opposite of the sampled NACK. -/
theorem probeCompletes : Obligations.ProbeCompletes := by
  unfold Obligations.ProbeCompletes
  intro s hidle hscl
  refine ⟨_, exec_eq_issue .probe s, (run_issue hidle hscl .probe _).trans ?_⟩
  rw [issue_idle hidle, foldl_goOn_probe rfl, microEnd_probe rfl, ← probeOperand_eq_shiftLeft]
  rfl

end Sys2Proof.Machine
end

section
/-! Proofs of the statements of 60_exceptions.md: the reserved command and the busy overrun (R94, R95), the stretch timeout and the
hang (R97, R99), and the idle block (R110). -/

namespace Sys2Proof.Machine

/-! ### Reserved command, busy overrun, idle block -/

/-- Settles O24: the reserved branch of a CMD write (O56). -/
theorem reservedCommand : Obligations.ReservedCommand := by
  unfold Obligations.ReservedCommand
  intro s v hidle hres hnext
  obtain ⟨hbranches, -⟩ := cmdWriteBranchesAndStarts
  obtain ⟨-, hreserved, -⟩ := hbranches s v hnext
  exact hreserved hidle hres

/-- Settles O25: the busy branches of a CTRL write (O20) and of a CMD write (O56); a STATUS write only clears flags, and the writes of
TXDATA and ADDR leave them. -/
theorem busyOverrun : Obligations.BusyOverrun := by
  unfold Obligations.BusyOverrun
  constructor
  · rintro s off v hbusy (rfl | rfl) hnext
    · obtain ⟨hoverrun, -⟩ := ctrlWrite s v hnext
      exact hoverrun hbusy
    · obtain ⟨hbranches, -⟩ := cmdWriteBranchesAndStarts
      obtain ⟨hoverrun, -⟩ := hbranches s v hnext
      exact hoverrun hbusy
  · rintro s off v - (rfl | rfl | rfl) hnext <;> rw [step_write hnext]
    · exact ⟨_, regWrite_status v _, by simp +contextual⟩
    · exact ⟨_, regWrite_txdata v _, by simp⟩
    · exact ⟨_, regWrite_addr v _, by simp⟩

/-- Settles O16: with no host step left and BUSY = 0 neither agent has a step (`stepWith_noStep`). -/
theorem idleRetainsState : Obligations.IdleRetainsState := by
  unfold Obligations.IdleRetainsState
  rintro s ⟨hprog, hidle⟩ (hhost | hctl)
  · exact stepWith_noStep (.inr ⟨hhost, hprog⟩)
  · exact stepWith_noStep (.inl ⟨hctl, hidle⟩)

/-! ### The host program and the schedule over a step -/

@[simp] theorem issue_hostProg (s : State) (c : Instr) (o : Option Byte) : (s.issue c o).hostProg = s.hostProg := by
  unfold State.issue; split <;> rfl
@[simp] theorem issue_schedule (s : State) (c : Instr) (o : Option Byte) : (s.issue c o).schedule = s.schedule := by
  unfold State.issue; split <;> rfl

/-- A window write touches neither the host program nor the schedule. -/
theorem regWrite_hostProg_schedule {off : Offset} {v : Byte} {s t : State} (h : regWrite off v s = .next t) :
    t.hostProg = s.hostProg ∧ t.schedule = s.schedule := by
  obtain ⟨-, rfl⟩ | ⟨-, hcmd⟩ | ⟨-, rfl⟩ | ⟨-, rfl⟩ | ⟨-, rfl⟩ | rfl := regWrite_cases h
  · unfold State.writeCtrl; split <;> simp
  · obtain ⟨-, rfl⟩ | ⟨-, c, -, rfl⟩ | ⟨-, rfl⟩ := cmdWrite_cases hcmd <;> simp
  all_goals simp

/-- A host step leaves the schedule as it was, and puts nothing into the host program but a wait that has not ended (R69). -/
theorem hostOp_hostProg_schedule {op : HostOp} {s t : State} (h : hostOp op s = .next t) :
    (t.hostProg = s.hostProg ∨ t.hostProg = .wait :: s.hostProg) ∧ t.schedule = s.schedule := by
  obtain ⟨-, rfl⟩ | ⟨v, rfl⟩ | rfl | ⟨off, v, -, hwrite⟩ := hostOp_cases h
  · exact ⟨.inl rfl, rfl⟩
  · simp
  · cases hb : s.busy with
    | true => rw [waitPoll_busy hb]; simp
    | false => rw [waitPoll_idle hb]; simp
  · obtain ⟨hprog, hsched⟩ := regWrite_hostProg_schedule hwrite
    exact ⟨.inl hprog, hsched⟩

/-- A step uses up its own turn and no other. -/
theorem stepWith_schedule {limit : Option Nat} {s t : State} (h : stepWith limit s = .next t) : t.schedule = s.atTurn.schedule := by
  obtain ⟨op, -, rfl⟩ | ⟨op, -, hop⟩ | ⟨a, b, -, rfl⟩ | ⟨-, rfl⟩ := stepWith_next h
  · obtain ⟨-, -, -, -, -, -, -, -, -, hsched, -⟩ := runMicroOp_frame limit op s.atTurn
    exact hsched
  · obtain ⟨-, hsched⟩ := hostOp_hostProg_schedule hop
    exact hsched
  · rfl
  · rfl

/-- No step puts a reset into the host program. -/
theorem stepWith_reset_not_mem {limit : Option Nat} {s t : State} (hnot : .reset ∉ s.hostProg) (h : stepWith limit s = .next t) :
    .reset ∉ t.hostProg := by
  obtain ⟨op, -, rfl⟩ | ⟨op, -, hop⟩ | ⟨a, b, -, rfl⟩ | ⟨-, rfl⟩ := stepWith_next h
  · obtain ⟨-, -, -, -, -, -, -, -, hprog, -⟩ := runMicroOp_frame limit op s.atTurn
    rwa [hprog, atTurn_hostProg]
  · have htail : .reset ∉ s.hostProg.tail := fun hmem => hnot (List.mem_of_mem_tail hmem)
    obtain ⟨hprog | hprog, -⟩ := hostOp_hostProg_schedule hop
    · rwa [hprog, atHostOp_hostProg]
    · simpa [hprog] using htail
  · simpa using hnot
  · simpa using hnot

/-- While BUSY = 1 no step gets past a wait (R69). -/
theorem stepWith_wait_stays {limit : Option Nat} {s t : State} (hbusy : s.busy = true) {rest : List HostOp}
    (hwait : s.hostProg = .wait :: rest) (h : stepWith limit s = .next t) : t.hostProg = s.hostProg := by
  obtain ⟨op, -, rfl⟩ | ⟨op, hnext, hop⟩ | ⟨a, b, -, rfl⟩ | ⟨-, rfl⟩ := stepWith_next h
  · obtain ⟨-, -, -, -, -, -, -, -, hprog, -⟩ := runMicroOp_frame limit op s.atTurn
    rw [hprog, atTurn_hostProg]
  · obtain rfl : op = .wait := List.head_eq_of_cons_eq ((hostNext_prog hnext).symm.trans hwait)
    obtain rfl : waitPoll s.atHostOp = t := by simpa [hostOp] using hop
    rw [waitPoll_busy (by simpa using hbusy), hwait]
    simp [hwait]
  · simp
  · simp

/-! ### A WSCL whose polls all read 0 -/

/-- A command is at a WSCL, and no reset is among the host steps left. -/
structure State.AtWscl (s : State) : Prop where
  busy : s.busy = true
  microOp : s.microOp? = some .wscl
  noReset : .reset ∉ s.hostProg

/-- The state after `k` more low polls that hold (R35). -/
def State.countPolls (k : Nat) (s : State) : State := { s with stallCnt := s.stallCnt + k }

/-- The level the next step polls, if it polls. -/
def State.nextPoll (s : State) : List Bit := if s.aboutTo .wscl then [s.scl] else []

theorem pollLevels_succ {limit : Option Nat} {n : Nat} {s t : State} (h : stepWith limit s = .next t) :
    pollLevels limit (n + 1) s = s.nextPoll ++ pollLevels limit n t := by
  simp [pollLevels, h, State.nextPoll]

/-- Counted polls add up over two runs. -/
theorem KeepsController.countPolls_trans {s t u : State} {j k : Nat} (hst : KeepsController (s.countPolls j) t)
    (htu : KeepsController (t.countPolls k) u) : KeepsController (s.countPolls (j + k)) u where
  sclO := htu.sclO.trans hst.sclO
  sdaO := htu.sdaO.trans hst.sdaO
  busy := htu.busy.trans hst.busy
  nack := htu.nack.trans hst.nack
  present := htu.present.trans hst.present
  rxdata := htu.rxdata.trans hst.rxdata
  cmd := htu.cmd.trans hst.cmd
  upc := htu.upc.trans hst.upc
  txl := htu.txl.trans hst.txl
  stallCnt := by rw [htu.stallCnt, State.countPolls, hst.stallCnt, State.countPolls, State.countPolls, Nat.add_assoc]

/-- A step at a WSCL counts the poll it takes, if it takes one, and changes the Controller's part no further, so long as that poll reads
0 and is below the limit. -/
theorem stepWith_of_atWscl {limit : Option Nat} {s t : State} (hs : s.AtWscl) (hlow : ∀ v ∈ s.nextPoll, v = false)
    (hlimit : ∀ n ∈ limit, s.stallCnt + s.nextPoll.length < n) (h : stepWith limit s = .next t) :
    KeepsController (s.countPolls s.nextPoll.length) t := by
  obtain ⟨op, habout, rfl⟩ | ⟨hreset, -⟩ | ⟨hturn, hkeep, -⟩ := stepWith_busy hs.busy h
  · obtain rfl : .wscl = op := Option.some.inj (hs.microOp.symm.trans (aboutTo_microOp habout))
    have hpoll : s.nextPoll = [s.scl] := if_pos habout
    rw [hpoll] at hlow hlimit ⊢
    rw [runMicroOp_wscl_hold (by simpa using hlow) (by simpa using hlimit)]
    constructor <;> simp [State.countPolls]
  · have hmem : .reset ∈ s.hostProg := by rw [hostNext_prog hreset]; exact List.mem_cons_self
    exact absurd hmem hs.noReset
  · have hpoll : s.nextPoll = [] := if_neg fun habout => hturn (aboutTo_turn habout)
    rw [hpoll]
    exact hkeep

/-- And the command stays at its WSCL. -/
theorem atWscl_of_keepsController {s t : State} {k : Nat} (hs : s.AtWscl) (hkeep : KeepsController (s.countPolls k) t)
    (hreset : .reset ∉ t.hostProg) : t.AtWscl where
  busy := hkeep.busy.trans hs.busy
  microOp := by rw [← hs.microOp, State.microOp?, State.microOp?, hkeep.cmd, hkeep.upc]; rfl
  noReset := hreset

/-- Over any run in which every poll reads 0 and their number stays below the limit, the WSCL counts its polls and holds, and a wait
that is the next host step is not passed (R76, R97). -/
theorem runWith_of_atWscl {limit : Option Nat} {m : Nat} {s t : State} (hs : s.AtWscl)
    (hlow : ∀ v ∈ pollLevels limit m s, v = false) (hlimit : ∀ n ∈ limit, s.stallCnt + (pollLevels limit m s).length < n)
    (h : runWith limit m s = .next t) :
    KeepsController (s.countPolls (pollLevels limit m s).length) t ∧
    (∀ rest, s.hostProg = .wait :: rest → t.hostProg = s.hostProg) := by
  induction m generalizing s with
  | zero => cases h; exact ⟨by constructor <;> rfl, fun _ _ => rfl⟩
  | succ m ih =>
    obtain ⟨u, hstep, hrun⟩ := runWith_succ_next h
    rw [pollLevels_succ hstep] at hlow hlimit ⊢
    simp only [List.mem_append, or_imp, forall_and, List.length_append] at hlow hlimit ⊢
    obtain ⟨hlow, hlowRest⟩ := hlow
    have hkeep := stepWith_of_atWscl hs hlow (fun n hn => by have := hlimit n hn; omega) hstep
    have hu : u.AtWscl := atWscl_of_keepsController hs hkeep (stepWith_reset_not_mem hs.noReset hstep)
    have hcount : u.stallCnt = s.stallCnt + s.nextPoll.length := hkeep.stallCnt
    obtain ⟨hkeepRest, hwaitRest⟩ := ih hu hlowRest (fun n hn => by have := hlimit n hn; omega) hrun
    refine ⟨hkeep.countPolls_trans hkeepRest, fun rest hwait => ?_⟩
    have hprog := stepWith_wait_stays hs.busy hwait hstep
    rw [hwaitRest rest (hprog.trans hwait), hprog]

/-! ### The Controller alone at a low clock -/

/-- Undisturbed turns below the limit count their polls and do no more. -/
theorem runWith_low_polls {limit : Option Nat} {k : Nat} {s : State} (hbusy : s.busy = true) (hop : s.microOp? = some .wscl)
    (hscl : s.scl = false) (hlimit : ∀ n ∈ limit, s.stallCnt + k < n) (j : Nat) :
    runWith limit k (s.withControllerTurns (k + j)) = .next ((s.countPolls k).withControllerTurns j) := by
  induction k generalizing s with
  | zero => simp [runWith_zero, State.countPolls]
  | succ k ih =>
    have hstep : stepWith limit (s.withControllerTurns (k + j + 1)) =
        .next ((s.countPolls 1).withControllerTurns (k + j)) := by
      have hbelow : ∀ n ∈ limit, s.stallCnt + 1 < n := fun n hn => by have := hlimit n hn; omega
      rw [stepWith_withControllerTurns hbusy hop, runMicroOp_wscl_hold (s := s.withControllerTurns (k + j)) hscl hbelow]
      rfl
    have hrest : runWith limit k ((s.countPolls 1).withControllerTurns (k + j)) = _ :=
      ih hbusy hop hscl fun n hn => by rw [State.countPolls, Nat.add_assoc, Nat.add_comm 1]; exact hlimit n hn
    rw [Nat.add_right_comm, runWith_succ k hstep, hrest, State.countPolls, State.countPolls, State.countPolls, Nat.add_assoc,
      Nat.add_comm 1]

theorem countPolls_of_zero {s : State} (h : s.stallCnt = 0) (k : Nat) : s.countPolls k = { s with stallCnt := k } := by
  rw [State.countPolls, h, Nat.zero_add]

/-- The N-th of them aborts the command (R97). -/
theorem runWith_low_polls_abort {n : Nat} {s : State} (hn : 1 ≤ n) (hbusy : s.busy = true) (hop : s.microOp? = some .wscl)
    (hscl : s.scl = false) (hstall : s.stallCnt = 0) :
    runWith (some n) n (s.withControllerTurns n) = .next { s with
      errStall := true, cmd := none, busy := false, upc := 0, stallCnt := 0 } := by
  obtain ⟨k, rfl⟩ : ∃ k, n = k + 1 := ⟨n - 1, by omega⟩
  have hhold := runWith_low_polls (limit := some (k + 1)) (k := k) hbusy hop hscl (by simp [hstall]) 1
  have habort : stepWith (some (k + 1)) ((s.countPolls k).withControllerTurns 1) = .next { s with
      errStall := true, cmd := none, busy := false, upc := 0, stallCnt := 0 } := by
    rw [stepWith_withControllerTurns (s := s.countPolls k) hbusy hop,
      runMicroOp_wscl_abort (s := (s.countPolls k).withControllerTurns 0) hscl (by simp [State.countPolls, hstall])]
    rfl
  rw [runWith_add k 1 hhold, runWith_succ 0 habort, runWith_zero]

/-- Settles O39: under every interleaving `runWith_of_atWscl`, then `runMicroOp_wscl_abort`; undisturbed `runWith_low_polls` and
`runWith_low_polls_abort`. -/
theorem nthLowPollAborts : Obligations.NthLowPollAborts := by
  unfold Obligations.NthLowPollAborts
  constructor
  · intro limit m s t hbusy hop hstall hreset hrun hlow hlimit
    obtain ⟨hkeep, -⟩ := runWith_of_atWscl ⟨hbusy, hop, hreset⟩ hlow (by simpa [hstall] using hlimit) hrun
    rw [countPolls_of_zero hstall] at hkeep
    have hcount : t.stallCnt = (pollLevels limit m s).length := hkeep.stallCnt
    refine ⟨⟨hcount, hkeep.busy.trans hbusy, hkeep.cmd, hkeep.upc, hkeep.sclO, hkeep.sdaO, hkeep.nack, hkeep.present,
      hkeep.rxdata⟩, ?_⟩
    rintro n rfl hn habout hscl
    have hreached : n ≤ t.atTurn.stallCnt + 1 := by rw [atTurn_stallCnt, hcount]; exact hn.le
    rw [stepWith_aboutTo habout, runMicroOp_wscl_abort (by simpa using hscl) hreached]
  · intro n s hn hbusy hop hscl hstall
    refine ⟨fun k hk => ?_, runWith_low_polls_abort hn hbusy hop hscl hstall, ?_, fun _ hlines => sclO_of_wscl hlines hop⟩
    · rw [← countPolls_of_zero hstall]
      exact runWith_low_polls hbusy hop hscl (by simpa [hstall] using hk) 0
    · rw [← countPolls_of_zero hstall]
      exact runWith_low_polls hbusy hop hscl (by simp) 0

/-! ### A Peer that keeps SCL low -/

/-- The Peer holds SCL low, and no turn already fixed releases it. -/
structure State.PeerHoldsScl (s : State) : Prop where
  low : s.pScl = false
  stays : ∀ sda, .peer true sda ∉ s.schedule

theorem peerHoldsScl_stepWith {limit : Option Nat} {s t : State} (hs : s.PeerHoldsScl) {x : Turn} {xs : List Turn}
    (hsched : s.schedule = x :: xs) (h : stepWith limit s = .next t) : t.PeerHoldsScl where
  low := by
    obtain ⟨hsame, -⟩ | hpeer := stepWith_peerLines h
    · exact hsame.trans hs.low
    · have hmem : .peer t.pScl t.pSda ∈ s.schedule := by
        rw [← hpeer, nextTurn_of_schedule_cons hsched, hsched]
        exact List.mem_cons_self
      by_contra hhigh
      rw [Bool.not_eq_false] at hhigh
      exact hs.stays t.pSda (hhigh ▸ hmem)
  stays sda hmem := by
    rw [stepWith_schedule h, atTurn_of_schedule hsched] at hmem
    exact hs.stays sda (hsched ▸ List.mem_cons_of_mem x hmem)

/-- So every poll in the turns already fixed reads 0 (R19). -/
theorem pollLevels_of_peerHoldsScl {limit : Option Nat} {n : Nat} {s t : State} (hs : s.PeerHoldsScl) (hlen : n ≤ s.schedule.length)
    (h : runWith limit n s = .next t) : ∀ v ∈ pollLevels limit n s, v = false := by
  induction n generalizing s with
  | zero => simp [pollLevels]
  | succ n ih =>
    obtain ⟨u, hstep, hrun⟩ := runWith_succ_next h
    obtain ⟨x, xs, hsched⟩ := List.exists_cons_of_length_pos (show 0 < s.schedule.length by omega)
    have husched : u.schedule = xs := by rw [stepWith_schedule hstep, atTurn_of_schedule hsched]
    have hrest := ih (peerHoldsScl_stepWith hs hsched hstep) (by rw [hsched, List.length_cons] at hlen; rw [husched]; omega) hrun
    have hfirst : ∀ v ∈ s.nextPoll, v = false := by
      unfold State.nextPoll
      split <;> simp [State.scl, hs.low]
    rw [pollLevels_succ hstep]
    simp only [List.mem_append, or_imp, forall_and]
    exact ⟨hfirst, hrest⟩

/-- Settles O40: every poll reads 0, and with no limit the WSCL holds over any number of them (`runWith_of_atWscl`). -/
theorem stalledClockHangs : Obligations.StalledClockHangs := by
  unfold Obligations.StalledClockHangs
  intro n s t hbusy hop hlow hlen hpeer hreset hrun
  have hpolls := pollLevels_of_peerHoldsScl ⟨hlow, hpeer⟩ hlen hrun
  obtain ⟨hkeep, hwait⟩ := runWith_of_atWscl ⟨hbusy, hop, hreset⟩ hpolls (by simp) hrun
  exact ⟨hkeep.busy.trans hbusy, hkeep.cmd, hkeep.upc, hkeep.sclO, hkeep.sdaO, hwait⟩

end Sys2Proof.Machine
end

section
/-! Proofs of the statements of 70_reset_and_hazards.md: the reset step (R111, R113), and how many turns a command takes while the
clock is never stretched (R126). -/

namespace Sys2Proof.Machine

/-! ### Reset -/

/-- Settles O18: the host step that is next is `State.resetBlock`, which takes every value it does not keep from `State.reset`. -/
theorem resetStep : Obligations.ResetStep := by
  unfold Obligations.ResetStep
  intro s hnext
  rw [step_hostNext hnext, hostOp, State.resetBlock]
  rfl

/-! ### The length of a command -/

/-- A command issued while idle, through fewer Controller turns than its micro-program is long: it goes on through as many micro-ops,
END not being among them. -/
theorem run_issue_take {s : State} (hidle : s.busy = false) (hscl : s.pScl = true) {c : Instr} {k : Nat}
    (hk : k < (program c).length) (o : Option Byte) :
    run k ((s.issue c o).withControllerTurns k) = .next (((program c).take k).foldl State.goOn (s.issue c o)) := by
  have hissue : s.issue c o = _ := issue_idle hidle c o
  have hfinish : .finish ∉ (program c).take k := fun hmem =>
    finish_not_mem_dropLast c
      (by rw [List.dropLast_eq_take]; exact (List.take_prefix_take_left (Nat.le_sub_one_of_lt hk)).subset hmem)
  have hgoOn := runWith_goOn config_limitLegal (ops := (program c).take k) (rest := (program c).drop k) (n := 0)
    (inv_issue config_limitLegal hidle c o) (by rw [hissue]) (by simpa using hscl)
    (by rw [hissue]; exact (List.take_append_drop k (program c)).symm) hfinish
  rw [List.length_take_of_le hk.le] at hgoOn
  exact hgoOn

/-- Settles O59: `run_issue_take` leaves the command running at micro-op k, and `run_issue` ends it. -/
theorem commandTakesItsMicroOpCount : Obligations.CommandTakesItsMicroOpCount := by
  unfold Obligations.CommandTakesItsMicroOpCount
  intro c s hidle hscl
  refine ⟨_, exec_eq_issue c s, fun k hk => ?_, ⟨_, run_issue hidle hscl c _, rfl⟩⟩
  obtain ⟨hbusy, -, hupc⟩ := foldl_goOn_sequencer ((program c).take k) (s.issue c (latched c s))
  refine ⟨_, run_issue_take hidle hscl hk _, ?_, ?_⟩
  · rw [hbusy, issue_idle hidle]
  · rw [hupc, issue_idle hidle, List.length_take_of_le hk.le, Nat.zero_add]

end Sys2Proof.Machine
end
